-- ==== Sys2Proof/Word.lean ====
section
/-! DEFINITION. The words of the block (00_scope.md R9, 20_memory.md R60): every value is an unsigned bit vector. -/

namespace Sys2Proof

/-- One byte: port data, VRAM and OAM contents (R73). -/
abbrev Byte := BitVec 8

/-- One pixel of the frame buffer, a 4-bit colour index (R63). -/
abbrev Pixel := BitVec 4

/-- A 16-bit address: `vaddr`, the two table bases, a CPU-bus address (R33, R60). -/
abbrev Addr := BitVec 16

/-- A transaction word (30_encoding.md R100). -/
abbrev TxWord := BitVec 26

end Sys2Proof
end

