-- ==== Sys2Proof/Syntax.lean ====
section
/-! DEFINITION. The operations of the block, one constructor per row of opcode_table.json, and what the host hands over for one
operation: a transaction word with an out-of-band argument (30_encoding.md R100-R104). -/

namespace Sys2Proof

/-- One operation (R103, R104). A port read has no operand: its `D` field is ignored (R101). -/
inductive Instr where
  | wrCtrl (d : Byte)
  | rdCtrl
  | wrMask (d : Byte)
  | rdMask
  | wrStatus (d : Byte)
  | rdStatus
  | wrOamAddr (d : Byte)
  | rdOamAddr
  | wrOamData (d : Byte)
  | rdOamData
  | wrScroll (d : Byte)
  | rdScroll
  | wrAddr (d : Byte)
  | rdAddr
  | wrData (d : Byte)
  | rdData
  | wrOamDma (page : Byte)
  | powerOn
  | reset
  | stepTo (n : Nat)
  | stopAfterFrame (n : Nat)
  | protectAcquire
  | protectRelease (token : Bool)
  | fbRead (x y : Nat)
  deriving DecidableEq, Repr

/-- The out-of-band argument `arg` of a host call (R102): a natural number for STEP_TO and STOP_AFTER_FRAME, a saved Boolean for
PROTECT_RELEASE, a pixel coordinate for FB_READ. Each call reads its own slot; the others are unused. (log 5) -/
structure HostArg where
  num : Nat := 0
  token : Bool := false
  x : Nat := 0
  y : Nat := 0
  deriving DecidableEq, Repr

/-- What the host issues for one operation: the 26-bit word and the out-of-band argument (R100). -/
structure Transaction where
  word : TxWord
  arg : HostArg := {}
  deriving DecidableEq, Repr

/-- Why the decoder refuses a word (R105, R110). -/
inductive DecodeRefusal where
  /-- A port word at an address outside 0x2000-0x2007 and 0x4014, or a read of 0x4014. -/
  | notAPpuPort
  /-- A host word with `R = 1`, `D != 0` or an id above 6. -/
  | reservedHostEncoding
  deriving DecidableEq, Repr

end Sys2Proof
end

