-- ==== Sys2Proof/Decode.lean ====
section
/-! DEFINITION. The decoder of 30_encoding.md R105, total on every 26-bit word, the encoder, and the match and mask of each row of
opcode_table.json. -/

namespace Sys2Proof

/-- Field `H`, bit 25: false for a port operation, true for a host call (R100). -/
def fieldH (w : TxWord) : Bool := w.getLsbD 25

/-- Field `R`, bit 24: true for a read (R100). -/
def fieldR (w : TxWord) : Bool := w.getLsbD 24

/-- Field `A`, bits 23:8: the port's CPU-bus address, or the call id (R100). -/
def fieldA (w : TxWord) : Addr := w.extractLsb' 8 16

/-- Field `D`, bits 7:0: the data byte (R100). -/
def fieldD (w : TxWord) : Byte := w.extractLsb' 0 8

/-- A port write: the port map's write column (R103). -/
def decodePortWrite (a : Addr) (d : Byte) : Except DecodeRefusal Instr :=
  if a = 0x2000 then .ok (.wrCtrl d)
  else if a = 0x2001 then .ok (.wrMask d)
  else if a = 0x2002 then .ok (.wrStatus d)
  else if a = 0x2003 then .ok (.wrOamAddr d)
  else if a = 0x2004 then .ok (.wrOamData d)
  else if a = 0x2005 then .ok (.wrScroll d)
  else if a = 0x2006 then .ok (.wrAddr d)
  else if a = 0x2007 then .ok (.wrData d)
  else if a = 0x4014 then .ok (.wrOamDma d)
  else .error .notAPpuPort

/-- A port read: the port map's read column (R103); a read of 0x4014 is no operation (R195). -/
def decodePortRead (a : Addr) : Except DecodeRefusal Instr :=
  if a = 0x2000 then .ok .rdCtrl
  else if a = 0x2001 then .ok .rdMask
  else if a = 0x2002 then .ok .rdStatus
  else if a = 0x2003 then .ok .rdOamAddr
  else if a = 0x2004 then .ok .rdOamData
  else if a = 0x2005 then .ok .rdScroll
  else if a = 0x2006 then .ok .rdAddr
  else if a = 0x2007 then .ok .rdData
  else .error .notAPpuPort

/-- A host call by its id (R104), with the out-of-band argument it takes (R102). -/
def decodeHostCall (a : Addr) (arg : HostArg) : Except DecodeRefusal Instr :=
  if a = 0x0000 then .ok .powerOn
  else if a = 0x0001 then .ok .reset
  else if a = 0x0002 then .ok (.stepTo arg.num)
  else if a = 0x0003 then .ok (.stopAfterFrame arg.num)
  else if a = 0x0004 then .ok .protectAcquire
  else if a = 0x0005 then .ok (.protectRelease arg.token)
  else if a = 0x0006 then .ok (.fbRead arg.x arg.y)
  else .error .reservedHostEncoding

/-- `Decode` of R105. -/
def decode (t : Transaction) : Except DecodeRefusal Instr :=
  if fieldH t.word then
    if fieldR t.word || fieldD t.word != 0 then .error .reservedHostEncoding
    else decodeHostCall (fieldA t.word) t.arg
  else if fieldR t.word then decodePortRead (fieldA t.word)
  else decodePortWrite (fieldA t.word) (fieldD t.word)

/-- A word from its four fields, `H` in the high bit (R100). -/
def txWord (h r : Bool) (a : Addr) (d : Byte) : TxWord :=
  BitVec.ofBool h ++ BitVec.ofBool r ++ a ++ d

/-- A port write's transaction. -/
def portWriteTx (a : Addr) (d : Byte) : Transaction := { word := txWord false false a d }

/-- A port read's transaction; the ignored `D` is written as 0 (R101, R111). -/
def portReadTx (a : Addr) : Transaction := { word := txWord false true a 0 }

/-- A host call's transaction. -/
def hostCallTx (a : Addr) (arg : HostArg) : Transaction := { word := txWord true false a 0, arg := arg }

/-- The transaction of an operation (R103, R104). -/
def encode : Instr → Transaction
  | .wrCtrl d => portWriteTx 0x2000 d
  | .rdCtrl => portReadTx 0x2000
  | .wrMask d => portWriteTx 0x2001 d
  | .rdMask => portReadTx 0x2001
  | .wrStatus d => portWriteTx 0x2002 d
  | .rdStatus => portReadTx 0x2002
  | .wrOamAddr d => portWriteTx 0x2003 d
  | .rdOamAddr => portReadTx 0x2003
  | .wrOamData d => portWriteTx 0x2004 d
  | .rdOamData => portReadTx 0x2004
  | .wrScroll d => portWriteTx 0x2005 d
  | .rdScroll => portReadTx 0x2005
  | .wrAddr d => portWriteTx 0x2006 d
  | .rdAddr => portReadTx 0x2006
  | .wrData d => portWriteTx 0x2007 d
  | .rdData => portReadTx 0x2007
  | .wrOamDma p => portWriteTx 0x4014 p
  | .powerOn => hostCallTx 0x0000 {}
  | .reset => hostCallTx 0x0001 {}
  | .stepTo n => hostCallTx 0x0002 { num := n }
  | .stopAfterFrame n => hostCallTx 0x0003 { num := n }
  | .protectAcquire => hostCallTx 0x0004 {}
  | .protectRelease b => hostCallTx 0x0005 { token := b }
  | .fbRead x y => hostCallTx 0x0006 { x := x, y := y }

/-- The `match` column of an operation's row in opcode_table.json. -/
def rowMatch : Instr → TxWord
  | .wrCtrl _ => 0x0200000
  | .rdCtrl => 0x1200000
  | .wrMask _ => 0x0200100
  | .rdMask => 0x1200100
  | .wrStatus _ => 0x0200200
  | .rdStatus => 0x1200200
  | .wrOamAddr _ => 0x0200300
  | .rdOamAddr => 0x1200300
  | .wrOamData _ => 0x0200400
  | .rdOamData => 0x1200400
  | .wrScroll _ => 0x0200500
  | .rdScroll => 0x1200500
  | .wrAddr _ => 0x0200600
  | .rdAddr => 0x1200600
  | .wrData _ => 0x0200700
  | .rdData => 0x1200700
  | .wrOamDma _ => 0x0401400
  | .powerOn => 0x2000000
  | .reset => 0x2000100
  | .stepTo _ => 0x2000200
  | .stopAfterFrame _ => 0x2000300
  | .protectAcquire => 0x2000400
  | .protectRelease _ => 0x2000500
  | .fbRead _ _ => 0x2000600

/-- The `mask` column of an operation's row in opcode_table.json. -/
def rowMask : Instr → TxWord
  | .wrCtrl _ | .rdCtrl | .wrMask _ | .rdMask | .wrStatus _ | .rdStatus | .wrOamAddr _ | .rdOamAddr
  | .wrOamData _ | .rdOamData | .wrScroll _ | .rdScroll | .wrAddr _ | .rdAddr | .wrData _ | .rdData
  | .wrOamDma _ => 0x3FFFF00
  | .powerOn | .reset | .stepTo _ | .stopAfterFrame _ | .protectAcquire | .protectRelease _ | .fbRead _ _ => 0x3FFFFFF

/-- The operation the decoder reads from the word `w` numbered as opcode_table.json numbers it: the low `nbits` bits of `w`, every
higher bit and the out-of-band argument 0. A number that needs more than 26 bits is no transaction word (R100). -/
def decodeTableWord (nbits w : Nat) : Option Instr :=
  let bits := w % 2 ^ nbits
  if bits < 2 ^ 26 then
    match decode { word := BitVec.ofNat 26 bits } with
    | .ok i => some i
    | .error _ => none
  else none

end Sys2Proof
end

