-- ==== Sys2Proof/Config.lean ====
section
/-! DEFINITION. The parameters of 00_scope.md R8 with their default values, and the free values (draws) of the spec as constants
without a body: no proof can learn a value of one. -/

namespace Sys2Proof

/-- The readings of the sprite-palette mirror (20_memory.md R66, D7, C2). -/
inductive PaletteMirror where
  | fourEntries
  | allSprite
  | only3F10
  deriving DecidableEq, Repr

/-- The two palette lookups (20_memory.md R71, R72, D8). -/
inductive PaletteLookup where
  | intended
  | asCoded
  deriving DecidableEq, Repr

/-- The parameters of the model (R8). They are arguments of the shared operations and no state (R20). -/
structure Params where
  /-- `WARMUP_THRESHOLD`: `ready` is true exactly when `master` exceeds it (R37). -/
  warmup : Nat
  /-- `START_LINE`: the scanline at power-on and reset (D2). -/
  startLine : Nat
  /-- `PALETTE_MIRROR` (R66). -/
  paletteMirror : PaletteMirror
  /-- `PALETTE_LOOKUP` (R71, R72). -/
  paletteLookup : PaletteLookup
  /-- `FLAG_TIMING_IN_WARMUP` (R252, D28). -/
  flagTimingInWarmup : Bool
  /-- `REENTRANT_PAGES`: the OAMDMA source pages that are refused (R194). -/
  reentrantPages : List Byte
  /-- `T_VBL1` (R258). -/
  tVbl1 : Nat
  /-- `T_VBL2` (R258). -/
  tVbl2 : Nat
  /-- `T_RENDER` (R258). -/
  tRender : Nat
  deriving DecidableEq, Repr

/-- What R258 and R36 demand of the parameters: `0 < T_VBL1 <= T_VBL2 <= WARMUP_THRESHOLD + 1 <= T_RENDER`, and a start line
that is a line. -/
def Params.Legal (P : Params) : Prop :=
  0 < P.tVbl1 ∧ P.tVbl1 ≤ P.tVbl2 ∧ P.tVbl2 ≤ P.warmup + 1 ∧ P.warmup + 1 ≤ P.tRender ∧ P.startLine < 262

/-- What rendering and sprite evaluation read (43_timing.md R260): VRAM and OAM (cells written since power-on, and the index of
the power-on draw behind them), the CTRL, MASK and scroll fields, and the position. -/
structure RenderView where
  vram : List Host.Cell
  oam : List Host.Cell
  powerOns : Nat
  ntBase : Addr
  bgPatternBase : Addr
  spriteSize : Bool
  vinc : Addr
  nmiEnable : Bool
  grayscale : Bool
  showBg : Bool
  showSprites : Bool
  scrollX : Byte
  scrollY : Byte
  scanline : Nat
  dot : Nat
  deriving DecidableEq, Repr

namespace Config

/-- `VRAM_INIT` of the `k`-th power-on, at a physical index: a free value (R330, D23). -/
opaque vramInit : Nat → Nat → Byte

/-- `OAM_INIT` of the `k`-th power-on, at an index: a free value (R330, D23). -/
opaque oamInit : Nat → Nat → Byte

/-- `FB_INIT` of the `k`-th power-on, at pixel `256 * y + x`: a free value (R330, D30). -/
opaque fbInit : Nat → Nat → Pixel

/-- The answer of the bus collaborator to the `k`-th draw, an `ExtRead` at a CPU-bus address: a free value (20_memory.md R75). -/
opaque extRead : Nat → Addr → Byte

/-- The draw that may set sprite-0 hit (R262): a free value. -/
opaque spriteZeroDraw : Nat → RenderView → Bool

/-- The draw that may set sprite overflow (R262): a free value. -/
opaque spriteOverflowDraw : Nat → RenderView → Bool

/-- The draws for column `x` of the current row (R263): `none` where the first draw is false, else the pixel drawn. -/
opaque pixelDraw : Nat → RenderView → Nat → Option Pixel

/-- The choice behind the open parameter `T_VBL1`. -/
opaque openVbl1 : Nat

/-- The choice behind the open parameter `T_VBL2`. -/
opaque openVbl2 : Nat

/-- The choice behind the open parameter `T_RENDER`. -/
opaque openRender : Nat

/-- `WARMUP_THRESHOLD`, default of R8. -/
def warmup : Nat := 29658

/-- `T_VBL1`: any value from 1 to `WARMUP_THRESHOLD + 1` (R258). -/
def tVbl1 : Nat := 1 + openVbl1 % (warmup + 1)

/-- `T_VBL2`: any value from `T_VBL1` to `WARMUP_THRESHOLD + 1` (R258). -/
def tVbl2 : Nat := tVbl1 + openVbl2 % (warmup + 2 - tVbl1)

/-- `T_RENDER`: any value from `WARMUP_THRESHOLD + 1` up (R258). -/
def tRender : Nat := warmup + 1 + openRender

/-- `REENTRANT_PAGES`, default of R8 and R194: 0x20..0x3F. -/
def reentrantPages : List Byte := (List.range 0x20).map (fun i => BitVec.ofNat 8 (0x20 + i))

/-- The parameters this machine runs with: the defaults of R8, the open ones free within R258's bounds. -/
def params : Params where
  warmup := warmup
  startLine := 0
  paletteMirror := .fourEntries
  paletteLookup := .intended
  flagTimingInWarmup := true
  reentrantPages := reentrantPages
  tVbl1 := tVbl1
  tVbl2 := tVbl2
  tRender := tRender

end Config

end Sys2Proof
end

