-- ==== Sys2Proof/Machine/Operands.lean ====
section
/-! DEFINITION. Operand assembly (30_encoding.md R106-R109) and the address translator (20_memory.md R64-R67). -/

namespace Sys2Proof.Machine

/-! ### CTRL and MASK data bytes -/

/-- `nt_base = 0x2000 + 0x400 * D[1:0]` (R106). -/
def ctrlNtBase (d : Byte) : Addr := 0x2000 + 0x400 * (d &&& 0x03).setWidth 16

/-- `vinc = (D[2] == 1) ? 32 : 1` (R106). -/
def ctrlVinc (d : Byte) : Addr := if d.getLsbD 2 then 32 else 1

/-- `bg_pattern_base = (D & 0x10) << 8` (R106). -/
def ctrlBgPatternBase (d : Byte) : Addr := (d &&& 0x10).setWidth 16 <<< 8

/-- `sprite_size = D[5]` (R106). -/
def ctrlSpriteSize (d : Byte) : Bool := d.getLsbD 5

/-- `nmi_enable = D[7]` (R106). -/
def ctrlNmiEnable (d : Byte) : Bool := d.getLsbD 7

/-- `grayscale = D[0]` (R107). -/
def maskGrayscale (d : Byte) : Bool := d.getLsbD 0

/-- `show_bg = D[3]` (R107). -/
def maskShowBg (d : Byte) : Bool := d.getLsbD 3

/-- `show_sprites = D[4]` (R107). -/
def maskShowSprites (d : Byte) : Bool := d.getLsbD 4

/-! ### ADDR and OAMDMA data bytes -/

/-- `{D, vaddr[7:0]}` (R109, R144). -/
def withHighByte (a : Addr) (d : Byte) : Addr := (d.setWidth 16 <<< 8) ||| (a &&& 0x00FF)

/-- `{vaddr[15:8], D}` (R109, R144). -/
def withLowByte (a : Addr) (d : Byte) : Addr := (a &&& 0xFF00) ||| d.setWidth 16

/-- The `i`-th OAMDMA source address, `P * 0x100 + i` (R109, R191). -/
def dmaSource (p : Byte) (i : Nat) : Addr := BitVec.ofNat 16 (p.toNat * 0x100 + i)

/-! ### The address translator -/

/-- `SpriteMirror` (R66), of an address already masked with 0xFF1F. -/
def spriteMirror (m : PaletteMirror) (a : Addr) : Bool :=
  match m with
  | .fourEntries => (a &&& 0x13) == 0x10
  | .allSprite => (a &&& 0x10) == 0x10
  | .only3F10 => (a &&& 0x1F) == 0x10

/-- The name-table mirror (R65). -/
def foldNameTable (a : Addr) : Addr :=
  if 0x3000#16 ≤ a ∧ a < 0x3F00#16 then a - 0x1000 else a

/-- The palette mirror (R66). -/
def foldPalette (m : PaletteMirror) (a : Addr) : Addr :=
  if (a >>> 8) &&& 0x3F = 0x3F then
    if spriteMirror m (a &&& 0xFF1F) then a &&& 0xFF1F &&& 0xFF0F else a &&& 0xFF1F
  else a

/-- `Translate` (R64): the two mirrors in order. Its domain is 14 bits (R67); the 16-bit type lets an input outside it be stated. -/
def translate (m : PaletteMirror) (a : Addr) : Addr := foldPalette m (foldNameTable a)

/-- What a DATA access selects: `Translate(vaddr & 0x3FFF)` (R67, R146, R147). -/
def dataLocation (m : PaletteMirror) (vaddr : Addr) : Addr := translate m (vaddr &&& 0x3FFF)

/-- The pixel index of column `x`, row `y` (R63). -/
def pixelIndex (x y : Nat) : Nat := 256 * y + x

end Sys2Proof.Machine
end

