-- ==== Sys2Proof/Machine/State.lean ====
section
/-! DEFINITION. The state of the block (10_state.md R20), its reset values (R43), and the reasons a step can stop
(60_exceptions.md R303, R305). -/

namespace Sys2Proof.Machine

/-- The lifecycle phases (R36, 43_timing.md R258). -/
inductive Phase where
  | powerOn
  | vbl1
  | vbl2
  | ready
  | render
  deriving DecidableEq, Repr

/-- The register set (R20, R22-R35). One-bit fields are Booleans. -/
structure Regs where
  /-- Name-table base address (R22). -/
  ntBase : Addr
  /-- Background pattern-table base (R23). -/
  bgPatternBase : Addr
  /-- Sprite size mode (R24). -/
  spriteSize : Bool
  /-- Increment step of DATA accesses, 1 or 32 (R25). -/
  vinc : Addr
  /-- Vblank-NMI enable (R26). -/
  nmiEnable : Bool
  /-- MASK flag (R28). -/
  grayscale : Bool
  /-- MASK flag (R28). -/
  showBg : Bool
  /-- MASK flag (R28). -/
  showSprites : Bool
  /-- Status flag (R30). -/
  vblank : Bool
  /-- Status flag (R30). -/
  sprite0Hit : Bool
  /-- Status flag (R30). -/
  spriteOverflow : Bool
  /-- OAM address register (R31). -/
  oamAddr : Byte
  /-- X scroll (R32). -/
  scrollX : Byte
  /-- Y scroll (R32). -/
  scrollY : Byte
  /-- Video address register (R33). -/
  vaddr : Addr
  /-- The write toggle SCROLL and ADDR share (R34): false is 0, true is 1. -/
  toggle : Bool
  /-- The communication latch (R35). -/
  latch : Byte
  deriving DecidableEq, Repr

/-- The timing counters and the lifecycle (R36, R37). -/
structure Timing where
  /-- PPU cycles executed since the last power-on or reset. -/
  master : Nat
  /-- Dot within the scanline, 0..340. -/
  dot : Nat
  /-- Scanline, 0..261. -/
  scanline : Nat
  /-- Completed frames. -/
  frame : Nat
  /-- The warm-up gate (R37). -/
  ready : Bool
  /-- The lifecycle phase. -/
  phase : Phase
  deriving DecidableEq, Repr

/-- What the last operation returned to its caller (R101, R214, R216). The model's own. (log 2) -/
inductive Returned where
  | nothing
  | byte (v : Byte)
  | token (b : Bool)
  | pixel (v : Pixel)
  deriving DecidableEq, Repr

/-- The whole state: the record of R20, and the model's own four last fields. -/
structure State where
  /-- The register set (R22-R35). -/
  regs : Regs
  /-- The timing counters and the lifecycle (R36, R37). -/
  time : Timing
  /-- `protected`: the Protection Guard's mode (R38). -/
  isProtected : Bool
  /-- `frame_ceiling` (R39). -/
  frameCeiling : Option Nat
  /-- `nmi_log`, the interrupt output (R40). -/
  nmiLog : List Nat
  /-- The bytes of VRAM written since power-on, by physical index (20_memory.md R61). -/
  vram : List Host.Cell
  /-- The bytes of OAM written since power-on, by index (R62). -/
  oam : List Host.Cell
  /-- The pixels written since power-on, by `256 * y + x` (R63). -/
  fb : List (Nat × Pixel)
  /-- The model's own: how many POWER_ON calls have been made; 0 is "before the first POWER_ON" (R332). (log 3) -/
  powerOns : Nat
  /-- The model's own: how many free draws have been made (R10). (log 6) -/
  draws : Nat
  /-- The model's own: what the last operation returned. (log 2) -/
  returned : Returned
  /-- The model's own: what the host has issued and the block has not performed yet, oldest first. (log 1) -/
  pending : List Transaction
  deriving DecidableEq, Repr

/-- The fatal faults (60_exceptions.md R303). R304: none is reachable. -/
inductive Fault where
  /-- `Translate` gave an index outside 0..0x3FFF. Raised by a DATA access. Safe: the spec names it fatal. -/
  | translateRange
  /-- `dot > 340` or `scanline > 261`. Raised at the start of a step. Safe: the spec names it fatal. -/
  | counterRange
  /-- Another invariant of R44 fails. Raised at the start of a step. Safe: the spec names it fatal. -/
  | invariant
  deriving DecidableEq, Repr

/-- The refusals (60_exceptions.md R305). -/
inductive Refusal where
  /-- An instruction of the table without a meaning. Raised by an arm of `exec`, and here by none. Safe. -/
  | notModelled (mnemonic : String)
  /-- `NOT_A_PPU_PORT`. Raised by the decoder (R105). Safe: the spec refuses the word. -/
  | notAPpuPort
  /-- `RESERVED_HOST_ENCODING`. Raised by the decoder (R105). Safe: the spec refuses the word. -/
  | reservedHostEncoding
  /-- `DMA_REENTRANT_PAGE`. Raised by WR_OAMDMA (R194). Safe: the spec refuses the page. -/
  | dmaReentrantPage
  /-- `FB_COORDINATE`. Raised by FB_READ (R216). Safe: the spec refuses the coordinate. -/
  | fbCoordinate
  /-- `BEFORE_POWER_ON`. Raised by every operation but POWER_ON (R332). Safe: the spec refuses the operation. -/
  | beforePowerOn
  deriving DecidableEq, Repr

/-- The outcome of an operation or a step. -/
abbrev Result := Host.Outcome State Fault Refusal

/-- The register set after power-on and reset (R43): as a CTRL write of 0x00 and a MASK write of 0x00 leave it, the rest 0. -/
def Regs.reset : Regs where
  ntBase := 0x2000
  bgPatternBase := 0x0000
  spriteSize := false
  vinc := 1
  nmiEnable := false
  grayscale := false
  showBg := false
  showSprites := false
  vblank := false
  sprite0Hit := false
  spriteOverflow := false
  oamAddr := 0x00
  scrollX := 0x00
  scrollY := 0x00
  vaddr := 0x0000
  toggle := false
  latch := 0x00

/-- The counters after power-on and reset (R43). -/
def Timing.reset (startLine : Nat) : Timing where
  master := 0
  dot := 0
  scanline := startLine
  frame := 0
  ready := false
  phase := .powerOn

/-- The state right after the first POWER_ON, where the block waits for the next operation (70_reset_and_hazards.md R330). (log 3) -/
def State.reset : State where
  regs := Regs.reset
  time := Timing.reset Config.params.startLine
  isProtected := false
  frameCeiling := none
  nmiLog := []
  vram := []
  oam := []
  fb := []
  powerOns := 1
  draws := 0
  returned := .nothing
  pending := []

/-- The block before the first POWER_ON (R332). Only `powerOns` is ever read of it. (log 3) -/
def State.beforePowerOn : State := { State.reset with powerOns := 0 }

end Sys2Proof.Machine
end

