-- ==== Sys2Proof/Machine/Ops.lean ====
section
/-! DEFINITION. The named operations over registers and memory. This hardware takes no exception and returns from none
(60_exceptions.md R300, R306); its one interrupt request is `emitNmi` (R301), and its refusals and assertions stand here. -/

namespace Sys2Proof.Machine

/-! ### Memory: lists of cells with strictly rising addresses -/

namespace Cells

/-- The value written at address `a`, or none where nothing has been written since power-on. -/
def find {α : Type} : List (Nat × α) → Nat → Option α
  | [], _ => none
  | (b, v) :: rest, a => if a = b then some v else if a < b then none else find rest a

/-- Write `v` at `a`, keeping the addresses strictly rising. -/
def write {α : Type} : List (Nat × α) → Nat → α → List (Nat × α)
  | [], a, v => [(a, v)]
  | (b, w) :: rest, a, v =>
    if a = b then (a, v) :: rest
    else if a < b then (a, v) :: (b, w) :: rest
    else (b, w) :: write rest a v

/-- Several writes, the first one first. -/
def writeAll {α : Type} (cells : List (Nat × α)) (ws : List (Nat × α)) : List (Nat × α) :=
  ws.foldl (fun cs w => write cs w.1 w.2) cells

/-- Every address is at least `lo`, the addresses rise strictly, and every one is below `hi`. -/
def risesFrom {α : Type} (hi : Nat) : Nat → List (Nat × α) → Bool
  | _, [] => true
  | lo, (a, _) :: rest => decide (lo ≤ a) && decide (a < hi) && risesFrom hi (a + 1) rest

/-- The canonical form of a memory of `size` addresses. An unlisted address holds no written value, so no entry can equal it. (log 8) -/
def wf {α : Type} (size : Nat) (cells : List (Nat × α)) : Bool := risesFrom size 0 cells

end Cells

/-- The sizes of R60. -/
def vramSize : Nat := 0x4000
def oamSize : Nat := 0x100
def fbSize : Nat := 61440

/-- The canonical form of the three memories. -/
def Memory.wf (s : State) : Bool :=
  Cells.wf vramSize s.vram && Cells.wf oamSize s.oam && Cells.wf fbSize s.fb

/-- `VramRead(i)` (R10): the byte written, or the power-on draw `VRAM_INIT` (R330). -/
def State.vramRead (s : State) (i : Nat) : Byte := (Cells.find s.vram i).getD (Config.vramInit s.powerOns i)

/-- `OamRead(i)` (R10), with `OAM_INIT` behind it. -/
def State.oamRead (s : State) (i : Nat) : Byte := (Cells.find s.oam i).getD (Config.oamInit s.powerOns i)

/-- `fb[y][x]` (R63), with `FB_INIT` behind it. -/
def State.fbPixel (s : State) (x y : Nat) : Pixel :=
  (Cells.find s.fb (pixelIndex x y)).getD (Config.fbInit s.powerOns (pixelIndex x y))

/-- `VramWrite(i, v)` (R10). -/
def State.vramWrite (s : State) (i : Nat) (v : Byte) : State := { s with vram := Cells.write s.vram i v }

/-- `OamWrite(i, v)` (R10). -/
def State.oamWrite (s : State) (i : Nat) (v : Byte) : State := { s with oam := Cells.write s.oam i v }

/-! ### Registers -/

/-- `RecordLatch(v)` (40_register_ports.md R130). -/
def State.recordLatch (s : State) (v : Byte) : State :=
  if s.isProtected then s else { s with regs.latch := v }

/-- Hand a value to the caller (30_encoding.md R101). -/
def State.answer (s : State) (r : Returned) : State := { s with returned := r }

/-- The ready gate (R131): a gated write has its effect only when `ready`. -/
def State.whenReady (s : State) (effect : State → State) : State := if s.time.ready then effect s else s

/-- The fields an accepted CTRL write sets (R132). -/
def State.acceptCtrl (s : State) (d : Byte) : State :=
  { s with
    regs.ntBase := ctrlNtBase d
    regs.vinc := ctrlVinc d
    regs.bgPatternBase := ctrlBgPatternBase d
    regs.spriteSize := ctrlSpriteSize d
    regs.nmiEnable := ctrlNmiEnable d }

/-- The flags an accepted MASK write sets (R134). -/
def State.acceptMask (s : State) (d : Byte) : State :=
  { s with
    regs.grayscale := maskGrayscale d
    regs.showBg := maskShowBg d
    regs.showSprites := maskShowSprites d }

/-- An accepted SCROLL write (R142): the toggle flips; on its way to 1 the byte is X, on its way to 0 it is Y. -/
def State.acceptScroll (s : State) (d : Byte) : State :=
  if s.regs.toggle then { s with regs.toggle := false, regs.scrollY := d }
  else { s with regs.toggle := true, regs.scrollX := d }

/-- An ADDR write (R144): the toggle flips; on its way to 1 the byte is the high byte, on its way to 0 the low byte. -/
def State.acceptAddr (s : State) (d : Byte) : State :=
  if s.regs.toggle then { s with regs.toggle := false, regs.vaddr := withLowByte s.regs.vaddr d }
  else { s with regs.toggle := true, regs.vaddr := withHighByte s.regs.vaddr d }

/-- `vaddr <- (vaddr + vinc) mod 2^16` (R146, R147). -/
def State.advanceVaddr (s : State) : State := { s with regs.vaddr := s.regs.vaddr + s.regs.vinc }

/-- `oam_addr <- (oam_addr + 1) mod 256` (R140). -/
def State.advanceOamAddr (s : State) : State := { s with regs.oamAddr := s.regs.oamAddr + 1 }

/-- `ClearRegisters()` (42_host_calls.md, R43). -/
def State.clearRegisters (P : Params) (s : State) : State :=
  { s with regs := Regs.reset, time := Timing.reset P.startLine }

/-- `emit NMI(c)` (60_exceptions.md R301): one entry at the end of `nmi_log`. The block's only request; nothing is saved, and
nothing withdraws it. -/
def State.emitNmi (s : State) (c : Nat) : State := { s with nmiLog := s.nmiLog ++ [c] }

/-! ### Stops -/

/-- Every operation before the first POWER_ON is refused (R305, R332). -/
def ifPowered (s : State) (r : Result) : Result :=
  if s.powerOns = 0 then .refused .beforePowerOn else r

/-- The shape of a port write (R130): the byte is recorded first, then the port has its effect; nothing is returned. -/
def portWrite (d : Byte) (effect : State → State) (s : State) : Result :=
  ifPowered s (.next ((effect (s.recordLatch d)).answer .nothing))

/-- A read of a write-only port (R133): the latch is returned and nothing changes. -/
def latchRead (s : State) : Result :=
  ifPowered s (.next ((s.recordLatch s.regs.latch).answer (.byte s.regs.latch)))

/-- The index a translated address names, or the fatal fault of R303 where it lies outside VRAM. -/
def checkedIndex (a : Addr) : Except Fault Nat :=
  if a.toNat < vramSize then .ok a.toNat else .error .translateRange

/-- A DATA access at the location `vaddr` selects (R146, R147). -/
def withDataIndex (P : Params) (s : State) (access : Nat → Result) : Result :=
  match checkedIndex (dataLocation P.paletteMirror s.regs.vaddr) with
  | .ok i => access i
  | .error f => .fault f

/-! ### Assertions (R303) and the operation queue -/

/-- `dot < 341` and `scanline < 262` (R44). -/
def State.countersInRange (s : State) : Bool := decide (s.time.dot < 341) && decide (s.time.scanline < 262)

/-- The other invariants of R44. The position's law is R266's for any start line: with start line 0 it is R44's. -/
def State.registersCoherent (P : Params) (s : State) : Bool :=
  (s.time.ready == decide (P.warmup < s.time.master))
    && (s.regs.ntBase == 0x2000 || s.regs.ntBase == 0x2400 || s.regs.ntBase == 0x2800 || s.regs.ntBase == 0x2C00)
    && (s.regs.bgPatternBase == 0x0000 || s.regs.bgPatternBase == 0x1000)
    && (s.regs.vinc == 1 || s.regs.vinc == 32)
    && (s.time.master + P.startLine * 341 == s.time.frame * 89342 + s.time.scanline * 341 + s.time.dot)

/-- The assertions a step makes before it performs anything (R303): in a state that breaks one, no operation has a meaning. (log 11) -/
def assertions (P : Params) (s : State) : Option Fault :=
  if !s.countersInRange then some .counterRange
  else if !s.registersCoherent P then some .invariant
  else none

/-- The oldest operation the host has issued, and the state without it (R77: the order of the calls). (log 1) -/
def State.takePending (s : State) : Option (Transaction × State) :=
  match s.pending with
  | [] => none
  | t :: rest => some (t, { s with pending := rest })

/-- With no operation issued the block waits, and nothing changes (R330). (log 1) -/
def State.wait (s : State) : State := s

/-- The refusal a word the decoder rejects ends in (R305). -/
def refusalOf : DecodeRefusal → Refusal
  | .notAPpuPort => .notAPpuPort
  | .reservedHostEncoding => .reservedHostEncoding

end Sys2Proof.Machine
end

