-- ==== Sys2Proof/Machine/Dma.lean ====
section
/-! DEFINITION. The OAM DMA controller (41_oam_dma.md R190-R194). -/

namespace Sys2Proof.Machine

/-- The 256 writes of a copy from page `p` (R190, R191): `ExtRead` of each source address in ascending order, each answer a draw of
its own, into OAM index 0..255. -/
def dmaWrites (k : Nat) (p : Byte) : List Host.Cell :=
  (List.range 256).map (fun i => (i, Config.extRead (k + i) (dmaSource p i)))

/-- The copy (R190). `oam_addr` is not changed (R192), and no time passes (R193). -/
def dmaCopy (p : Byte) (s : State) : State :=
  { s with oam := Cells.writeAll s.oam (dmaWrites s.draws p), draws := s.draws + 256 }

/-- R190. A page in `REENTRANT_PAGES` is refused (R194). -/
def execWrOamDma (p : Byte) (s : State) : Result :=
  ifPowered s
    (if p ∈ Config.params.reentrantPages then .refused .dmaReentrantPage
     else portWrite p (dmaCopy p) s)

end Sys2Proof.Machine
end

