-- ==== Sys2Proof/Machine/Flags.lean ====
section
/-! DEFINITION. The status flags (10_state.md R30): how a STATUS read composes them, and every way they are written. -/

namespace Sys2Proof.Machine

/-- `{vblank, sprite0_hit, sprite_overflow, latch[4:0]}` (30_encoding.md R108, 40_register_ports.md R136). -/
def statusByte (r : Regs) : Byte :=
  ((BitVec.ofBool r.vblank).setWidth 8 <<< 7) ||| ((BitVec.ofBool r.sprite0Hit).setWidth 8 <<< 6)
    ||| ((BitVec.ofBool r.spriteOverflow).setWidth 8 <<< 5) ||| (r.latch &&& 0x1F)

/-- `render_off`: neither background nor sprites enabled (R29). -/
def renderOff (r : Regs) : Bool := !r.showBg && !r.showSprites

/-- What a STATUS read outside protected mode does to the registers (R136): vblank and the toggle clear, and the latch takes the
value returned. -/
def afterStatusRead (r : Regs) (value : Byte) : Regs :=
  { r with vblank := false, toggle := false, latch := value }

/-- The vblank set of a tick (43_timing.md R254). -/
def setVblank (r : Regs) : Regs := { r with vblank := true }

/-- The pre-render clear of a tick (R256). -/
def clearStatusFlags (r : Regs) : Regs :=
  { r with vblank := false, sprite0Hit := false, spriteOverflow := false }

/-- Sprite evaluation's write (R262): each flag is set where its draw says so, and never cleared. -/
def setSpriteFlags (r : Regs) (hit overflow : Bool) : Regs :=
  { r with sprite0Hit := r.sprite0Hit || hit, spriteOverflow := r.spriteOverflow || overflow }

end Sys2Proof.Machine
end

