-- ==== Sys2Proof/Machine/Timing.lean ====
section
/-! DEFINITION. The timing and scanline state machine (43_timing.md): the tick, and the stepping loop of STEP_TO. -/

namespace Sys2Proof.Machine

/-- `Phase(m)` (R258). -/
def phaseAt (P : Params) (m : Nat) : Phase :=
  if m < P.tVbl1 then .powerOn
  else if m < P.tVbl2 then .vbl1
  else if m ≤ P.warmup then .vbl2
  else if m < P.tRender then .ready
  else .render

/-- `FlagTiming` (R252). -/
def flagTiming (P : Params) (s : State) : Bool := P.flagTimingInWarmup || s.time.phase == .render

/-- The position a tick executes (R252). -/
def State.at (s : State) (scanline dot : Nat) : Bool := s.time.scanline == scanline && s.time.dot == dot

/-- The vblank set of (241, 1) and its NMI (R254, R255): the flag first, then the request (R302). -/
def vblankEvent (P : Params) (s : State) : State :=
  if s.at 241 1 && flagTiming P s then
    let s' := { s with regs := setVblank s.regs }
    if s.regs.nmiEnable then s'.emitNmi s.time.master else s'
  else s

/-- The pre-render clear of (261, 1) (R256). -/
def preRenderEvent (P : Params) (s : State) : State :=
  if s.at 261 1 && flagTiming P s then { s with regs := clearStatusFlags s.regs } else s

/-- What rendering and sprite evaluation read of the state (R260). -/
def State.renderView (s : State) : RenderView where
  vram := s.vram
  oam := s.oam
  powerOns := s.powerOns
  ntBase := s.regs.ntBase
  bgPatternBase := s.regs.bgPatternBase
  spriteSize := s.regs.spriteSize
  vinc := s.regs.vinc
  nmiEnable := s.regs.nmiEnable
  grayscale := s.regs.grayscale
  showBg := s.regs.showBg
  showSprites := s.regs.showSprites
  scrollX := s.regs.scrollX
  scrollY := s.regs.scrollY
  scanline := s.time.scanline
  dot := s.time.dot

/-- `SpriteEval(s, d)` (R262): two free draws. (log 6) -/
def spriteEval (s : State) : State :=
  { s with regs := setSpriteFlags s.regs (Config.spriteZeroDraw s.draws s.renderView)
                    (Config.spriteOverflowDraw s.draws s.renderView) }

/-- The pixels `PixelWork` writes (R263): for each column of the row, a free choice whether to write and what. (log 6) -/
def pixelWrites (k : Nat) (view : RenderView) : List (Nat × Pixel) :=
  (List.range 256).filterMap (fun x => (Config.pixelDraw k view x).map (fun v => (pixelIndex x view.scanline, v)))

/-- `PixelWork(s, d)` (R263): writes on the row of the scanline. -/
def pixelWork (s : State) : State :=
  { s with fb := Cells.writeAll s.fb (pixelWrites s.draws s.renderView) }

/-- The rendering part of a tick (R259): on a visible line with rendering on, sprite evaluation and then pixel work. The draw
counter moves on, so that each tick's draws are new ones. -/
def renderEvent (s : State) : State :=
  if decide (s.time.scanline < 240) && !renderOff s.regs then
    let s' := pixelWork (spriteEval s)
    { s' with draws := s'.draws + 1 }
  else s

/-- The counter advance (R253), `ready` (R257) and the phase (R258). -/
def nextTiming (P : Params) (t : Timing) : Timing where
  master := t.master + 1
  dot := if t.dot + 1 = 341 then 0 else t.dot + 1
  scanline := if t.dot + 1 = 341 then (if t.scanline + 1 = 262 then 0 else t.scanline + 1) else t.scanline
  frame := if t.dot + 1 = 341 ∧ t.scanline + 1 = 262 then t.frame + 1 else t.frame
  ready := decide (P.warmup < t.master + 1)
  phase := phaseAt P (t.master + 1)

/-- `Tick()` (R252): the events of the position, then the advance. -/
def tick (P : Params) (s : State) : State :=
  let s' := renderEvent (preRenderEvent P (vblankEvent P s))
  { s' with time := nextTiming P s'.time }

/-- The frame ceiling is exceeded (R39, R212). -/
def ceilingExceeded (s : State) : Bool :=
  match s.frameCeiling with
  | none => false
  | some n => decide (n < s.time.frame)

/-- At most `k` ticks, none once the frame ceiling is exceeded. -/
def ticks (P : Params) : Nat → State → State
  | 0, s => s
  | k + 1, s => if ceilingExceeded s then s else ticks P k (tick P s)

/-- The loop of STEP_TO (R212). Each tick adds 1 to `master`, so `n - master` ticks reach `n`, and none run for `n <= master`. -/
def runTo (P : Params) (n : Nat) (s : State) : State := ticks P (n - s.time.master) s

end Sys2Proof.Machine
end

