-- ==== Sys2Proof/Machine/HostCalls.lean ====
section
/-! DEFINITION. The host calls (42_host_calls.md R210-R216), one meaning per call. -/

namespace Sys2Proof.Machine

/-- R210. Fresh memories (the draws of a new power-on), normal mode, no ceiling, an empty log, and cleared registers. The only
operation with a meaning before the first POWER_ON (R332). -/
def execPowerOn (s : State) : Result :=
  .next
    (({ s with vram := [], oam := [], fb := [], isProtected := false, frameCeiling := none, nmiLog := [],
               powerOns := s.powerOns + 1 }.clearRegisters Config.params).answer .nothing)

/-- R211, 70_reset_and_hazards.md R331. The memories, `protected`, `frame_ceiling` and `nmi_log` stay. -/
def execReset (s : State) : Result := ifPowered s (.next ((s.clearRegisters Config.params).answer .nothing))

/-- R212. -/
def execStepTo (n : Nat) (s : State) : Result := ifPowered s (.next ((runTo Config.params n s).answer .nothing))

/-- R213. -/
def execStopAfterFrame (n : Nat) (s : State) : Result :=
  ifPowered s (.next ({ s with frameCeiling := some n }.answer .nothing))

/-- R214. The token is the mode before the call. -/
def execProtectAcquire (s : State) : Result :=
  ifPowered s (.next ({ s with isProtected := true }.answer (.token s.isProtected)))

/-- R215. -/
def execProtectRelease (token : Bool) (s : State) : Result :=
  ifPowered s (.next ({ s with isProtected := token }.answer .nothing))

/-- R216. -/
def execFbRead (x y : Nat) (s : State) : Result :=
  ifPowered s
    (if 255 < x ∨ 239 < y then .refused .fbCoordinate
     else .next (s.answer (.pixel (s.fbPixel x y))))

end Sys2Proof.Machine
end

