-- ==== Sys2Proof/Machine/Ports.lean ====
section
/-! DEFINITION. The register ports 0x2000-0x2007 (40_register_ports.md R130-R147), one meaning per operation. -/

namespace Sys2Proof.Machine

/-! ### CTRL, MASK -/

/-- R132. Ignored until `ready`, but for the latch record. -/
def execWrCtrl (d : Byte) (s : State) : Result := portWrite d (fun s => s.whenReady (fun s => s.acceptCtrl d)) s

/-- R133. -/
def execRdCtrl (s : State) : Result := latchRead s

/-- R134. Ignored until `ready`, but for the latch record. -/
def execWrMask (d : Byte) (s : State) : Result := portWrite d (fun s => s.whenReady (fun s => s.acceptMask d)) s

/-- R135. -/
def execRdMask (s : State) : Result := latchRead s

/-! ### STATUS -/

/-- R137. No effect beyond the latch record. -/
def execWrStatus (d : Byte) (s : State) : Result := portWrite d (fun s => s) s

/-- R136. The value is composed before the clear. -/
def execRdStatus (s : State) : Result :=
  let value := statusByte s.regs
  let s' := if s.isProtected then s else { s with regs := afterStatusRead s.regs value }
  ifPowered s (.next (s'.answer (.byte value)))

/-! ### OAMADDR, OAMDATA -/

/-- R138. Not gated. -/
def execWrOamAddr (d : Byte) (s : State) : Result := portWrite d (fun s => { s with regs.oamAddr := d }) s

/-- R139. It returns the latch and not `oam_addr`. -/
def execRdOamAddr (s : State) : Result := latchRead s

/-- R140. Not gated. -/
def execWrOamData (d : Byte) (s : State) : Result :=
  portWrite d (fun s => (s.oamWrite s.regs.oamAddr.toNat d).advanceOamAddr) s

/-- R141. The address does not advance. -/
def execRdOamData (s : State) : Result :=
  let value := s.oamRead s.regs.oamAddr.toNat
  ifPowered s (.next ((s.recordLatch value).answer (.byte value)))

/-! ### SCROLL, ADDR -/

/-- R142. Ignored until `ready`, toggle included, but for the latch record. -/
def execWrScroll (d : Byte) (s : State) : Result := portWrite d (fun s => s.whenReady (fun s => s.acceptScroll d)) s

/-- R143. -/
def execRdScroll (s : State) : Result := latchRead s

/-- R144. Not gated. -/
def execWrAddr (d : Byte) (s : State) : Result := portWrite d (fun s => s.acceptAddr d) s

/-- R145. -/
def execRdAddr (s : State) : Result := latchRead s

/-! ### DATA -/

/-- R146. Not gated. -/
def execWrData (d : Byte) (s : State) : Result :=
  ifPowered s (withDataIndex Config.params s (fun i =>
    .next ((((s.recordLatch d).vramWrite i d).advanceVaddr).answer .nothing)))

/-- R147. No read buffer; in protected mode neither the latch nor `vaddr` changes. -/
def execRdData (s : State) : Result :=
  ifPowered s (withDataIndex Config.params s (fun i =>
    let value := s.vramRead i
    let s' := if s.isProtected then s else (s.recordLatch value).advanceVaddr
    .next (s'.answer (.byte value))))

end Sys2Proof.Machine
end

