-- ==== Sys2Proof/Machine/Dispatch.lean ====
section
/-! DEFINITION. The meaning of each operation, one arm per constructor of Instr. -/

namespace Sys2Proof.Machine

def exec (i : Instr) (s : State) : Host.Outcome State Fault Refusal :=
  match i with
  | .wrCtrl d => Sys2Proof.Machine.execWrCtrl d s
  | .rdCtrl => Sys2Proof.Machine.execRdCtrl s
  | .wrMask d => Sys2Proof.Machine.execWrMask d s
  | .rdMask => Sys2Proof.Machine.execRdMask s
  | .wrStatus d => Sys2Proof.Machine.execWrStatus d s
  | .rdStatus => Sys2Proof.Machine.execRdStatus s
  | .wrOamAddr d => Sys2Proof.Machine.execWrOamAddr d s
  | .rdOamAddr => Sys2Proof.Machine.execRdOamAddr s
  | .wrOamData d => Sys2Proof.Machine.execWrOamData d s
  | .rdOamData => Sys2Proof.Machine.execRdOamData s
  | .wrScroll d => Sys2Proof.Machine.execWrScroll d s
  | .rdScroll => Sys2Proof.Machine.execRdScroll s
  | .wrAddr d => Sys2Proof.Machine.execWrAddr d s
  | .rdAddr => Sys2Proof.Machine.execRdAddr s
  | .wrData d => Sys2Proof.Machine.execWrData d s
  | .rdData => Sys2Proof.Machine.execRdData s
  | .wrOamDma page => Sys2Proof.Machine.execWrOamDma page s
  | .powerOn => Sys2Proof.Machine.execPowerOn s
  | .reset => Sys2Proof.Machine.execReset s
  | .stepTo n => Sys2Proof.Machine.execStepTo n s
  | .stopAfterFrame n => Sys2Proof.Machine.execStopAfterFrame n s
  | .protectAcquire => Sys2Proof.Machine.execProtectAcquire s
  | .protectRelease token => Sys2Proof.Machine.execProtectRelease token s
  | .fbRead x y => Sys2Proof.Machine.execFbRead x y s

end Sys2Proof.Machine
end

