-- ==== Sys2Proof/Machine/Step.lean ====
section
/-! DEFINITION. One step: the assertions, then the oldest operation the host has issued, decoded and performed. -/

namespace Sys2Proof.Machine

/-- One step. A state that breaks an invariant is fatal (60_exceptions.md R303); with nothing issued the block waits (R330); else the
oldest transaction is decoded (30_encoding.md R105) and performed, atomically (R11) and in the order of the calls (R77). -/
def step (s : State) : Host.Outcome State Fault Refusal :=
  match assertions Config.params s with
  | some f => .fault f
  | none =>
    match s.takePending with
    | none => .next s.wait
    | some (t, s') =>
      match decode t with
      | .ok i => exec i s'
      | .error r => .refused (refusalOf r)

/-- The state with the word `w` (the low `nbits` bits of `w`, argument 0) issued as the next operation: it stands first in `pending`,
and nothing else changes. (log 4) -/
def State.withFetchWord (s : State) (nbits w : Nat) : State :=
  { s with pending := { word := BitVec.ofNat 26 (w % 2 ^ nbits) } :: s.pending }

end Sys2Proof.Machine
end

