-- ==== Sys2Proof/Machine/Palette.lean ====
section
/-! DEFINITION. The palette lookup (20_memory.md R71, R72): a read-only function of VRAM. No operation returns it (R72). -/

namespace Sys2Proof.Machine

/-- A VRAM read through the translator, of an address in the 14-bit domain (R64, R71). -/
def State.translatedRead (P : Params) (s : State) (a : Addr) : Byte := s.vramRead (translate P.paletteMirror a).toNat

/-- `PaletteColor(sprite, pal, idx)` (R71 `INTENDED`, R72 `AS_CODED`). -/
def paletteColor (P : Params) (s : State) (sprite : BitVec 1) (pal idx : BitVec 2) : Byte :=
  match P.paletteLookup with
  | .intended =>
    if idx = 0 then s.translatedRead P 0x3F00
    else s.translatedRead P (0x3F00 + 0x10 * sprite.setWidth 16 + 4 * pal.setWidth 16 + idx.setWidth 16)
  | .asCoded => s.vramRead 0x3F00

end Sys2Proof.Machine
end

