-- ==== Sys2Proof/WellFormed.lean ====
section
/-! DEFINITION. Which operations have operands in the ranges the spec gives them. -/

namespace Sys2Proof

/-- FB_READ takes a column in 0..255 and a row in 0..239 (42_host_calls.md R216). Every other operand fills its type: data bytes
(R101), natural numbers and a Boolean (R102). -/
def Instr.wellFormed : Instr → Bool
  | .fbRead x y => decide (x ≤ 255) && decide (y ≤ 239)
  | .wrCtrl _ | .rdCtrl | .wrMask _ | .rdMask | .wrStatus _ | .rdStatus | .wrOamAddr _ | .rdOamAddr
  | .wrOamData _ | .rdOamData | .wrScroll _ | .rdScroll | .wrAddr _ | .rdAddr | .wrData _ | .rdData
  | .wrOamDma _ | .powerOn | .reset | .stepTo _ | .stopAfterFrame _ | .protectAcquire | .protectRelease _ => true

end Sys2Proof
end

