-- ==== Sys2Proof/Safety.lean ====
section
/-! DEFINITION. The terms claims use: the invariant of 10_state.md R44, sequences of operations, and the sets of operations that the
whole-machine rules of the spec name. -/

namespace Sys2Proof

/-- The operations that read a port (30_encoding.md R103, read column). -/
def Instr.isPortRead : Instr → Bool
  | .rdCtrl | .rdMask | .rdStatus | .rdOamAddr | .rdOamData | .rdScroll | .rdAddr | .rdData => true
  | .wrCtrl _ | .wrMask _ | .wrStatus _ | .wrOamAddr _ | .wrOamData _ | .wrScroll _ | .wrAddr _ | .wrData _
  | .wrOamDma _ | .powerOn | .reset | .stepTo _ | .stopAfterFrame _ | .protectAcquire | .protectRelease _
  | .fbRead _ _ => false

/-- The operations that write a port (30_encoding.md R103, write column). -/
def Instr.isPortWrite : Instr → Bool
  | .wrCtrl _ | .wrMask _ | .wrStatus _ | .wrOamAddr _ | .wrOamData _ | .wrScroll _ | .wrAddr _ | .wrData _
  | .wrOamDma _ => true
  | .rdCtrl | .rdMask | .rdStatus | .rdOamAddr | .rdOamData | .rdScroll | .rdAddr | .rdData
  | .powerOn | .reset | .stepTo _ | .stopAfterFrame _ | .protectAcquire | .protectRelease _ | .fbRead _ _ => false

end Sys2Proof

namespace Sys2Proof.Machine

/-- The position law of R266 and R44, for the start line of `P`: with start line 0, `master = frame * 89342 + scanline * 341 + dot`. -/
def PositionLaw (P : Params) (t : Timing) : Prop :=
  t.master + P.startLine * 341 = t.frame * 89342 + t.scanline * 341 + t.dot

/-- The invariant of R44, with the canonical form of the three memories (the model's own). `toggle` is 0 or 1 by its type. -/
structure Inv (s : State) : Prop where
  dot_lt : s.time.dot < 341
  scanline_lt : s.time.scanline < 262
  ready_iff : s.time.ready = true ↔ Config.params.warmup < s.time.master
  ntBase_legal : s.regs.ntBase = 0x2000 ∨ s.regs.ntBase = 0x2400 ∨ s.regs.ntBase = 0x2800 ∨ s.regs.ntBase = 0x2C00
  bgPatternBase_legal : s.regs.bgPatternBase = 0x0000 ∨ s.regs.bgPatternBase = 0x1000
  vinc_legal : s.regs.vinc = 1 ∨ s.regs.vinc = 32
  position : PositionLaw Config.params s.time
  memory : Memory.wf s = true

/-- The operations performed one after another, stopping at the first that does not answer a next state. -/
def execAll : List Instr → State → Result
  | [], s => .next s
  | i :: is, s =>
    match exec i s with
    | .next s' => execAll is s'
    | .fault f => .fault f
    | .refused r => .refused r

/-- A step is safe when it does not end in a fatal fault (60_exceptions.md R303). A refusal is the model's own stop (R305). -/
def SafeStep (s : State) : Prop := ∀ f, step s ≠ .fault f

end Sys2Proof.Machine
end

