-- ==== Sys2Proof/Certificates/Slice0/Obligations.lean ====
section
/-! DEFINITION. The statements for the provers, from the numbered rules of spec/. "D<n>" is a decision of spec/92_eei_decisions.md, which
the spec marks as its own choice; "log <n>" is a row of the assumption log. -/

open Sys2Proof Sys2Proof.Machine

/-! ### Encoding -/

/-- Words written out from the encoding table of 95_test_vectors.md section 2 decode to the operations they stand for, and the refused
words there are refused by the reason there. The word format is D31. -/
def Obligations.SampleWordsDecode : Prop :=
  decode { word := 0x0200080 } = .ok (.wrCtrl 0x80) ∧
  decode { word := 0x0200118 } = .ok (.wrMask 0x18) ∧
  decode { word := 0x12002FF } = .ok .rdStatus ∧
  decode { word := 0x02003FE } = .ok (.wrOamAddr 0xFE) ∧
  decode { word := 0x1200400 } = .ok .rdOamData ∧
  decode { word := 0x0200510 } = .ok (.wrScroll 0x10) ∧
  decode { word := 0x0200621 } = .ok (.wrAddr 0x21) ∧
  decode { word := 0x02007AB } = .ok (.wrData 0xAB) ∧
  decode { word := 0x1200700 } = .ok .rdData ∧
  decode { word := 0x0401402 } = .ok (.wrOamDma 0x02) ∧
  decode { word := 0x2000000 } = .ok .powerOn ∧
  decode { word := 0x2000200, arg := { num := 7 } } = .ok (.stepTo 7) ∧
  decode { word := 0x2000500, arg := { token := true } } = .ok (.protectRelease true) ∧
  decode { word := 0x2000600, arg := { x := 3, y := 5 } } = .ok (.fbRead 3 5) ∧
  decode { word := 0x1401400 } = .error .notAPpuPort ∧
  decode { word := 0x0200800 } = .error .notAPpuPort ∧
  decode { word := 0x0400000 } = .error .notAPpuPort ∧
  decode { word := 0x3000000 } = .error .reservedHostEncoding ∧
  decode { word := 0x2000001 } = .error .reservedHostEncoding ∧
  decode { word := 0x2000700 } = .error .reservedHostEncoding

/-- Decoding an encoded operation gives it back, with every operand at every value (R105, D31; the argument's slots are log 5). -/
def Obligations.DecodeOfEncode : Prop := ∀ i : Instr, decode (encode i) = .ok i

/-- The decoder and the match and mask columns of opcode_table.json agree: a word decodes to an operation exactly when it lies in that
operation's row. Rows are told apart by their match (R105, D31). -/
def Obligations.DecodeAcceptsExactlyTheTableRows : Prop :=
  ∀ t : Transaction,
    (∀ i, decode t = .ok i → t.word &&& rowMask i = rowMatch i) ∧
    (∀ i, t.word &&& rowMask i = rowMatch i → ∃ j, decode t = .ok j ∧ rowMatch j = rowMatch i)

/-- The decoder refuses by name exactly the words R105 refuses (D21, D31): a port word outside the port map or a read of 0x4014, and a
host word with `R = 1`, `D != 0` or an id above 6. -/
def Obligations.DecodeRefusesExactly : Prop :=
  ∀ t : Transaction,
    (decode t = .error .notAPpuPort ↔
      t.word.getLsbD 25 = false ∧
        ¬ (0x2000 ≤ (t.word.extractLsb' 8 16).toNat ∧ (t.word.extractLsb' 8 16).toNat ≤ 0x2007) ∧
        ¬ ((t.word.extractLsb' 8 16).toNat = 0x4014 ∧ t.word.getLsbD 24 = false)) ∧
    (decode t = .error .reservedHostEncoding ↔
      t.word.getLsbD 25 = true ∧
        (t.word.getLsbD 24 = true ∨ t.word.extractLsb' 0 8 ≠ 0 ∨ 6 < (t.word.extractLsb' 8 16).toNat))

/-- Every operand comes from its own place: a write's byte from bits 7:0, a host call's argument from its out-of-band slot
(R100, R102, R105, D31; the slots are log 5). -/
def Obligations.DecodedOperandsAreTheWordsFields : Prop :=
  ∀ t : Transaction,
    (∀ d, decode t = .ok (.wrCtrl d) ∨ decode t = .ok (.wrMask d) ∨ decode t = .ok (.wrStatus d) ∨
        decode t = .ok (.wrOamAddr d) ∨ decode t = .ok (.wrOamData d) ∨ decode t = .ok (.wrScroll d) ∨
        decode t = .ok (.wrAddr d) ∨ decode t = .ok (.wrData d) ∨ decode t = .ok (.wrOamDma d) →
      d.toNat = t.word.toNat % 256) ∧
    (∀ n, decode t = .ok (.stepTo n) ∨ decode t = .ok (.stopAfterFrame n) → n = t.arg.num) ∧
    (∀ b, decode t = .ok (.protectRelease b) → b = t.arg.token) ∧
    (∀ x y, decode t = .ok (.fbRead x y) → x = t.arg.x ∧ y = t.arg.y)

/-! ### One step -/

/-- A step of a state that passes the assertions performs the oldest issued operation, as the decoder reads it, on the state without it
(R11, R77). That operations wait in a queue is the model's (log 1). -/
def Obligations.StepRunsTheDecodedOperation : Prop :=
  ∀ (s : State) (t : Transaction) (rest : List Transaction) (i : Instr),
    assertions Config.params s = none → s.pending = t :: rest → decode t = .ok i →
      step s = exec i { s with pending := rest }

/-- A step refuses, by its reason, a word the decoder refuses (R305, D21, D31), and with nothing issued the block waits and nothing
changes (70_reset_and_hazards.md R330 "waits for the next operation"). The queue, and that a step may wait, are the model's (log 1). -/
def Obligations.StepRefusesOrWaits : Prop :=
  ∀ s : State, assertions Config.params s = none →
    (s.pending = [] → step s = .next s) ∧
    (∀ (t : Transaction) (rest : List Transaction), s.pending = t :: rest →
      (decode t = .error .notAPpuPort → step s = .refused .notAPpuPort) ∧
      (decode t = .error .reservedHostEncoding → step s = .refused .reservedHostEncoding))

/-- A step is fatal exactly when a counter is out of its range or another invariant of R44 fails, and then by the kind R303 names (D38);
in a state that breaks none of them, whatever its memories and its issued operations, no step is fatal (R304). That the check stands at
the start of a step is the model's choice (log 11). -/
def Obligations.BrokenInvariantsAreFatal : Prop :=
  ∀ s : State,
    (¬ (s.time.dot < 341 ∧ s.time.scanline < 262) → step s = .fault .counterRange) ∧
    (s.time.dot < 341 → s.time.scanline < 262 →
      ¬ ((s.time.ready = true ↔ Config.params.warmup < s.time.master) ∧
          (s.regs.ntBase = 0x2000 ∨ s.regs.ntBase = 0x2400 ∨ s.regs.ntBase = 0x2800 ∨ s.regs.ntBase = 0x2C00) ∧
          (s.regs.bgPatternBase = 0x0000 ∨ s.regs.bgPatternBase = 0x1000) ∧
          (s.regs.vinc = 1 ∨ s.regs.vinc = 32) ∧
          PositionLaw Config.params s.time) →
        step s = .fault .invariant) ∧
    (s.time.dot < 341 → s.time.scanline < 262 →
      (s.time.ready = true ↔ Config.params.warmup < s.time.master) →
      (s.regs.ntBase = 0x2000 ∨ s.regs.ntBase = 0x2400 ∨ s.regs.ntBase = 0x2800 ∨ s.regs.ntBase = 0x2C00) →
      (s.regs.bgPatternBase = 0x0000 ∨ s.regs.bgPatternBase = 0x1000) →
      (s.regs.vinc = 1 ∨ s.regs.vinc = 32) →
      PositionLaw Config.params s.time →
        ∀ f, step s ≠ .fault f)

/-! ### CTRL, MASK, STATUS -/

/-- R132, R106: an accepted CTRL write sets the five fields from its byte, and changes nothing else but the latch (R130). Rests on D9,
D10, D12, D14, D15, D16. -/
def Obligations.WrCtrlAccepted : Prop :=
  ∀ (s : State) (d : Byte), s.powerOns ≠ 0 → s.time.ready = true →
    exec (.wrCtrl d) s = .next { s with
      regs := { s.regs with
        ntBase := BitVec.ofNat 16 (0x2000 + 0x400 * (d.toNat % 4))
        vinc := if d.getLsbD 2 then 32 else 1
        bgPatternBase := if d.getLsbD 4 then 0x1000 else 0x0000
        spriteSize := d.getLsbD 5
        nmiEnable := d.getLsbD 7
        latch := if s.isProtected then s.regs.latch else d }
      returned := .nothing }

/-- R134, R107: an accepted MASK write sets the three flags from its byte, and changes nothing else but the latch (R130). Rests on D11,
D12, D14, D15, D16. -/
def Obligations.WrMaskAccepted : Prop :=
  ∀ (s : State) (d : Byte), s.powerOns ≠ 0 → s.time.ready = true →
    exec (.wrMask d) s = .next { s with
      regs := { s.regs with
        grayscale := d.getLsbD 0
        showBg := d.getLsbD 3
        showSprites := d.getLsbD 4
        latch := if s.isProtected then s.regs.latch else d }
      returned := .nothing }

/-- R131, R333: before `ready`, a write to CTRL, MASK or SCROLL changes the latch and nothing else; a SCROLL write does not flip the
toggle. Rests on D14, D15, D43. -/
def Obligations.GatedWritesBeforeReadyOnlyRecordTheLatch : Prop :=
  ∀ (s : State) (d : Byte) (i : Instr), s.powerOns ≠ 0 → s.time.ready = false →
    (i = .wrCtrl d ∨ i = .wrMask d ∨ i = .wrScroll d) →
      exec i s = .next { s with
        regs := { s.regs with latch := if s.isProtected then s.regs.latch else d }
        returned := .nothing }

/-- R137: a STATUS write records the latch and does nothing else (C6, D14, D15). -/
def Obligations.WrStatusOnlyRecordsTheLatch : Prop :=
  ∀ (s : State) (d : Byte), s.powerOns ≠ 0 →
    exec (.wrStatus d) s = .next { s with
      regs := { s.regs with latch := if s.isProtected then s.regs.latch else d }
      returned := .nothing }

/-- R136, R108: a STATUS read returns the flags in bits 7, 6, 5 over the latch's low five bits. Outside protected mode it clears vblank
and the toggle and leaves the value in the latch; in protected mode nothing changes (C4). Rests on D17. -/
def Obligations.RdStatusReturnsFlagsAndClearsVblank : Prop :=
  ∀ s : State, s.powerOns ≠ 0 → ∃ v : Byte,
    v.getLsbD 7 = s.regs.vblank ∧ v.getLsbD 6 = s.regs.sprite0Hit ∧ v.getLsbD 5 = s.regs.spriteOverflow ∧
    v.toNat % 32 = s.regs.latch.toNat % 32 ∧
    exec .rdStatus s = .next (
      if s.isProtected then { s with returned := .byte v }
      else { s with regs := { s.regs with vblank := false, toggle := false, latch := v }, returned := .byte v })

/-! ### OAMADDR, OAMDATA, OAMDMA -/

/-- R138: an OAMADDR write sets `oam_addr`, gated by nothing, and changes nothing else but the latch (R130, D14, D15, D16). -/
def Obligations.WrOamAddrSetsTheAddress : Prop :=
  ∀ (s : State) (d : Byte), s.powerOns ≠ 0 →
    exec (.wrOamAddr d) s = .next { s with
      regs := { s.regs with oamAddr := d, latch := if s.isProtected then s.regs.latch else d }
      returned := .nothing }

/-- R140: an OAMDATA write stores its byte at `oam_addr` and no other byte of OAM changes; then `oam_addr` advances mod 256. Nothing else
changes but the latch. Rests on D14, D15, D16, D42. -/
def Obligations.WrOamDataStoresAndAdvances : Prop :=
  ∀ (s : State) (d : Byte), s.powerOns ≠ 0 → ∃ t : State,
    exec (.wrOamData d) s = .next t ∧
    t.oamRead s.regs.oamAddr.toNat = d ∧
    (∀ a, a ≠ s.regs.oamAddr.toNat → t.oamRead a = s.oamRead a) ∧
    (∀ a, t.vramRead a = s.vramRead a) ∧ (∀ x y, t.fbPixel x y = s.fbPixel x y) ∧
    t = { s with
      oam := t.oam
      regs := { s.regs with
        oamAddr := BitVec.ofNat 8 ((s.regs.oamAddr.toNat + 1) % 256)
        latch := if s.isProtected then s.regs.latch else d }
      returned := .nothing }

/-- R141: an OAMDATA read returns the byte at `oam_addr`; the address does not advance, and nothing else changes but the latch
(R130, D44). -/
def Obligations.RdOamDataReadsWithoutAdvancing : Prop :=
  ∀ s : State, s.powerOns ≠ 0 →
    exec .rdOamData s = .next { s with
      regs := { s.regs with latch := if s.isProtected then s.regs.latch else s.oamRead s.regs.oamAddr.toNat }
      returned := .byte (s.oamRead s.regs.oamAddr.toNat) }

/-- R140, 95_test_vectors.md S3: 256 OAMDATA writes leave `oam_addr` where it was, and the `k`-th of them lands `k` places on from it. -/
def Obligations.OamDataWritesCycleWithPeriod256 : Prop :=
  ∀ (s : State) (ds : List Byte), s.powerOns ≠ 0 → ds.length = 256 → ∃ t : State,
    execAll (ds.map Instr.wrOamData) s = .next t ∧
    t.regs.oamAddr = s.regs.oamAddr ∧
    ∀ (k : Nat) (d : Byte), ds[k]? = some d → t.oamRead ((s.regs.oamAddr.toNat + k) % 256) = d

/-- R190-R194: an OAMDMA write from a page outside 0x20..0x3F fills OAM with the bytes the bus collaborator answers for
`P * 0x100 .. P * 0x100 + 0xFF`; `oam_addr` and the counters do not change, nor anything else but the latch. From a page in 0x20..0x3F it
is refused. The answers are free values (R75, log 7). Rests on D18, D19, D20. -/
def Obligations.OamDmaCopiesThePageOrRefuses : Prop :=
  ∀ (s : State) (p : Byte), s.powerOns ≠ 0 →
    (¬ (0x20 ≤ p.toNat ∧ p.toNat ≤ 0x3F) → ∃ t : State,
      exec (.wrOamDma p) s = .next t ∧
      (∀ i, i < 256 → t.oamRead i = Config.extRead (s.draws + i) (BitVec.ofNat 16 (p.toNat * 0x100 + i))) ∧
      (∀ i, 256 ≤ i → t.oamRead i = s.oamRead i) ∧
      (∀ a, t.vramRead a = s.vramRead a) ∧ (∀ x y, t.fbPixel x y = s.fbPixel x y) ∧
      t = { s with
        oam := t.oam
        regs := { s.regs with latch := if s.isProtected then s.regs.latch else p }
        draws := s.draws + 256
        returned := .nothing }) ∧
    (0x20 ≤ p.toNat ∧ p.toNat ≤ 0x3F → exec (.wrOamDma p) s = .refused .dmaReentrantPage)

/-! ### SCROLL, ADDR, DATA -/

/-- R142: an accepted SCROLL write flips the toggle; with the toggle at 0 before it the byte is the X scroll, at 1 the Y scroll. Nothing
else changes but the latch (R130). Rests on D14, D15, D16. -/
def Obligations.WrScrollAccepted : Prop :=
  ∀ (s : State) (d : Byte), s.powerOns ≠ 0 → s.time.ready = true →
    exec (.wrScroll d) s = .next { s with
      regs := { s.regs with
        toggle := !s.regs.toggle
        scrollX := if s.regs.toggle then s.regs.scrollX else d
        scrollY := if s.regs.toggle then d else s.regs.scrollY
        latch := if s.isProtected then s.regs.latch else d }
      returned := .nothing }

/-- R144, R109: an ADDR write flips the toggle, gated by nothing; with the toggle at 0 before it the byte is the high byte of `vaddr`, at
1 the low byte. Nothing else changes but the latch (R130). Rests on D6, D14, D15, D16. -/
def Obligations.WrAddrSetsOneByte : Prop :=
  ∀ (s : State) (d : Byte), s.powerOns ≠ 0 →
    exec (.wrAddr d) s = .next { s with
      regs := { s.regs with
        toggle := !s.regs.toggle
        vaddr := BitVec.ofNat 16 (
          if s.regs.toggle then 256 * (s.regs.vaddr.toNat / 256) + d.toNat
          else 256 * d.toNat + s.regs.vaddr.toNat % 256)
        latch := if s.isProtected then s.regs.latch else d }
      returned := .nothing }

/-- R146: a DATA write stores its byte at the translated location, inside VRAM, and no other byte changes; then `vaddr` advances by
`vinc` mod 2^16. Nothing else changes but the latch. Rests on D6, D14, D15, D16, D40, and on this machine's palette reading (D7, log 9). -/
def Obligations.WrDataStoresAndAdvances : Prop :=
  ∀ (s : State) (d : Byte), s.powerOns ≠ 0 → ∃ t : State,
    exec (.wrData d) s = .next t ∧
    (dataLocation Config.params.paletteMirror s.regs.vaddr).toNat < 0x4000 ∧
    t.vramRead (dataLocation Config.params.paletteMirror s.regs.vaddr).toNat = d ∧
    (∀ a, a ≠ (dataLocation Config.params.paletteMirror s.regs.vaddr).toNat → t.vramRead a = s.vramRead a) ∧
    (∀ a, t.oamRead a = s.oamRead a) ∧ (∀ x y, t.fbPixel x y = s.fbPixel x y) ∧
    t = { s with
      vram := t.vram
      regs := { s.regs with
        vaddr := BitVec.ofNat 16 (s.regs.vaddr.toNat + s.regs.vinc.toNat)
        latch := if s.isProtected then s.regs.latch else d }
      returned := .nothing }

/-- R147: a DATA read returns the byte at the translated location now; outside protected mode the latch takes it and `vaddr` advances by
`vinc` mod 2^16, in protected mode nothing changes. The 14-bit mask and the 16-bit wrap are D6, the latch D15 (log 14), and the palette
reading of this machine D7 (log 9): decisions of the spec. -/
def Obligations.RdDataReturnsTheByteNow : Prop :=
  ∀ s : State, s.powerOns ≠ 0 →
    exec .rdData s = .next (
      if s.isProtected then
        { s with returned := .byte (s.vramRead (dataLocation Config.params.paletteMirror s.regs.vaddr).toNat) }
      else { s with
        regs := { s.regs with
          vaddr := BitVec.ofNat 16 (s.regs.vaddr.toNat + s.regs.vinc.toNat)
          latch := s.vramRead (dataLocation Config.params.paletteMirror s.regs.vaddr).toNat }
        returned := .byte (s.vramRead (dataLocation Config.params.paletteMirror s.regs.vaddr).toNat) })

/-- 95_test_vectors.md S6 (R144, R146): from toggle 0, ADDR writes of a high and a low byte and then a DATA write land at that 16-bit
address's location, and the address then advances by the increment step. Rests on D6, and on this machine's palette reading (D7, log 9). -/
def Obligations.AddressPairThenDataLandsThere : Prop :=
  ∀ (s : State) (hi lo v : Byte), s.powerOns ≠ 0 → s.regs.toggle = false → ∃ t : State,
    execAll [.wrAddr hi, .wrAddr lo, .wrData v] s = .next t ∧
    t.vramRead (translate Config.params.paletteMirror (BitVec.ofNat 16 ((256 * hi.toNat + lo.toNat) % 0x4000))).toNat = v ∧
    t.regs.vaddr = BitVec.ofNat 16 (256 * hi.toNat + lo.toNat + s.regs.vinc.toNat) ∧
    t.regs.toggle = false

/-- R148: after any sequence of ADDR writes, and of SCROLL writes while `ready`, the toggle has flipped once per write. -/
def Obligations.ToggleCountsWritesModTwo : Prop :=
  ∀ (s t : State) (is : List Instr), s.time.ready = true →
    (∀ i ∈ is, ∃ d, i = .wrAddr d ∨ i = .wrScroll d) → execAll is s = .next t →
      (t.regs.toggle = s.regs.toggle ↔ is.length % 2 = 0)

/-- R149: after `k` DATA accesses (writes, or reads outside protected mode), `vaddr` is `v0 + k * vinc` mod 2^16. -/
def Obligations.VideoAddressAdvancesByVincPerAccess : Prop :=
  ∀ (s t : State) (is : List Instr), s.isProtected = false →
    (∀ i ∈ is, i = .rdData ∨ ∃ d, i = .wrData d) → execAll is s = .next t →
      t.regs.vaddr.toNat = (s.regs.vaddr.toNat + is.length * s.regs.vinc.toNat) % 0x10000

/-! ### Reads -/

/-- R133, R135, R139, R143, R145: a read of a write-only port returns the latch and changes nothing (D13). -/
def Obligations.WriteOnlyPortReadsReturnTheLatch : Prop :=
  ∀ (s : State) (i : Instr), s.powerOns ≠ 0 →
    (i = .rdCtrl ∨ i = .rdMask ∨ i = .rdOamAddr ∨ i = .rdScroll ∨ i = .rdAddr) →
      exec i s = .next { s with returned := .byte s.regs.latch }

/-- R218, R76, R38: in protected mode a read of any port changes no state at all; it only returns its byte. -/
def Obligations.ProtectedReadsChangeNothing : Prop :=
  ∀ (s : State) (i : Instr), s.powerOns ≠ 0 → s.isProtected = true → i.isPortRead = true →
    ∃ v : Byte, exec i s = .next { s with returned := .byte v }

/-- R130, R218: with `protected = true` no port operation writes the latch, read or write (D15). -/
def Obligations.ProtectedPortOperationsKeepTheLatch : Prop :=
  ∀ (s t : State) (i : Instr), s.isProtected = true → (i.isPortRead = true ∨ i.isPortWrite = true) →
    exec i s = .next t → t.regs.latch = s.regs.latch

/-! ### Address translation and palette -/

/-- R65: for every address in [0x3000, 0x3F00), `Translate` subtracts 0x1000, so `Translate(a) = Translate(a - 0x1000)`, and the result is
in [0x2000, 0x2F00). -/
def Obligations.NameTableMirrorFolds : Prop :=
  ∀ (m : PaletteMirror) (a : Addr), 0x3000 ≤ a.toNat → a.toNat < 0x3F00 →
    (translate m a).toNat = a.toNat - 0x1000 ∧
    translate m a = translate m (a - 0x1000) ∧
    0x2000 ≤ (translate m a).toNat ∧ (translate m a).toNat < 0x2F00

/-- R68: on the 14-bit domain `Translate` stays in 0..0x3FFF, is idempotent, and never gives an index in [0x3000, 0x3F00) or
[0x3F20, 0x4000); under `FOUR_ENTRIES` it never gives 0x3F10, 0x3F14, 0x3F18 or 0x3F1C. -/
def Obligations.TranslateStaysInRange : Prop :=
  ∀ (m : PaletteMirror) (a : Addr), a.toNat < 0x4000 →
    (translate m a).toNat < 0x4000 ∧
    translate m (translate m a) = translate m a ∧
    ¬ (0x3000 ≤ (translate m a).toNat ∧ (translate m a).toNat < 0x3F00) ∧
    ¬ (0x3F20 ≤ (translate m a).toNat) ∧
    (m = .fourEntries → (translate m a).toNat ∉ [0x3F10, 0x3F14, 0x3F18, 0x3F1C])

/-- R66 under `FOUR_ENTRIES` (D7): in the palette region only the low five bits count, and of those, 0x10, 0x14, 0x18 and 0x1C lose
bit 4; everywhere below the mirror regions an address is its own location (R69). -/
def Obligations.FourEntryPaletteMirror : Prop :=
  ∀ a : Addr,
    (0x3F00 ≤ a.toNat → a.toNat < 0x4000 →
      (translate .fourEntries a).toNat =
        if a.toNat % 32 = 0x10 ∨ a.toNat % 32 = 0x14 ∨ a.toNat % 32 = 0x18 ∨ a.toNat % 32 = 0x1C
        then 0x3F00 + (a.toNat % 32 - 0x10) else 0x3F00 + a.toNat % 32) ∧
    (a.toNat < 0x3000 → translate .fourEntries a = a)

/-- R71, R72: under `INTENDED` colour index 0 is the backdrop byte at 0x3F00 for every palette and half, and another index selects the
translated entry `0x3F00 + 0x10*sprite + 4*pal + idx`; under `AS_CODED` every input gives the byte at 0x3F00. Rests on D8, D48. -/
def Obligations.PaletteColorLookup : Prop :=
  ∀ (P : Params) (s : State) (sprite : BitVec 1) (pal idx : BitVec 2),
    (P.paletteLookup = .intended → idx.toNat = 0 → paletteColor P s sprite pal idx = s.vramRead 0x3F00) ∧
    (P.paletteLookup = .intended → idx.toNat ≠ 0 →
      paletteColor P s sprite pal idx =
        s.vramRead (translate P.paletteMirror
          (BitVec.ofNat 16 (0x3F00 + 16 * sprite.toNat + 4 * pal.toNat + idx.toNat))).toNat) ∧
    (P.paletteLookup = .asCoded → paletteColor P s sprite pal idx = s.vramRead 0x3F00)

/-! ### Lifecycle, guard, frame buffer -/

/-- R210, R43: POWER_ON, from any state, gives every register and counter its reset value, normal mode, no ceiling, an empty log and
fresh memories (the draws of a new power-on, log 8). Rests on D22, D23, D25, D26, D49; `powerOns`, `draws`, `pending` and `returned` are
the model's own (log 1, 2, 3, 6). -/
def Obligations.PowerOnGivesTheResetState : Prop :=
  ∀ s : State, exec .powerOn s = .next {
    regs := {
      ntBase := 0x2000, bgPatternBase := 0x0000, spriteSize := false, vinc := 1, nmiEnable := false,
      grayscale := false, showBg := false, showSprites := false,
      vblank := false, sprite0Hit := false, spriteOverflow := false,
      oamAddr := 0x00, scrollX := 0x00, scrollY := 0x00, vaddr := 0x0000, toggle := false, latch := 0x00 }
    time := { master := 0, dot := 0, scanline := Config.params.startLine, frame := 0, ready := false, phase := .powerOn }
    isProtected := false
    frameCeiling := none
    nmiLog := []
    vram := []
    oam := []
    fb := []
    powerOns := s.powerOns + 1
    draws := s.draws
    returned := .nothing
    pending := s.pending }

/-- R211, R331, R43: RESET gives every register and counter its reset value and keeps `vram`, `oam`, `fb`, `protected`, `frame_ceiling`
and `nmi_log`. Rests on D22, D24, D25, D26. -/
def Obligations.ResetClearsRegistersKeepsTheRest : Prop :=
  ∀ s : State, s.powerOns ≠ 0 → exec .reset s = .next { s with
    regs := {
      ntBase := 0x2000, bgPatternBase := 0x0000, spriteSize := false, vinc := 1, nmiEnable := false,
      grayscale := false, showBg := false, showSprites := false,
      vblank := false, sprite0Hit := false, spriteOverflow := false,
      oamAddr := 0x00, scrollX := 0x00, scrollY := 0x00, vaddr := 0x0000, toggle := false, latch := 0x00 }
    time := { master := 0, dot := 0, scanline := Config.params.startLine, frame := 0, ready := false, phase := .powerOn }
    returned := .nothing }

/-- R305, R332: before the first POWER_ON every other operation is refused (D49). -/
def Obligations.OperationsBeforePowerOnRefused : Prop :=
  ∀ (s : State) (i : Instr), s.powerOns = 0 → i ≠ .powerOn → exec i s = .refused .beforePowerOn

/-- R300, R304, R305: on a powered block every operation answers a next state, but for an OAMDMA write from a refused page and a
frame-buffer read outside 256 x 240. Rests on D19, D46. -/
def Obligations.PoweredOperationsComplete : Prop :=
  ∀ (s : State) (i : Instr), s.powerOns ≠ 0 →
    (∀ p, i = .wrOamDma p → ¬ (0x20 ≤ p.toNat ∧ p.toNat ≤ 0x3F)) → i.wellFormed = true →
      ∃ t, exec i s = .next t

/-- R213: STOP_AFTER_FRAME sets the ceiling, replacing an earlier one, and changes nothing else (D26). -/
def Obligations.StopAfterFrameSetsTheCeiling : Prop :=
  ∀ (s : State) (n : Nat), s.powerOns ≠ 0 →
    exec (.stopAfterFrame n) s = .next { s with frameCeiling := some n, returned := .nothing }

/-- R214: PROTECT_ACQUIRE returns the mode before it as its token, sets `protected`, and changes nothing else. R218: in the state it leaves,
no port read changes any state; R214 names the STATUS, DATA and OAMDATA reads, and for the write-only ports it rests on D13 (R133, log 14). -/
def Obligations.ProtectAcquireReturnsTheOldMode : Prop :=
  ∀ s : State, s.powerOns ≠ 0 → ∃ t : State,
    exec .protectAcquire s = .next t ∧
    t = { s with isProtected := true, returned := .token s.isProtected } ∧
    ∀ i : Instr, i.isPortRead = true → ∃ v : Byte, exec i t = .next { t with returned := .byte v }

/-- R215: PROTECT_RELEASE sets `protected` to its token and changes nothing else. -/
def Obligations.ProtectReleaseRestoresTheToken : Prop :=
  ∀ (s : State) (b : Bool), s.powerOns ≠ 0 →
    exec (.protectRelease b) s = .next { s with isProtected := b, returned := .nothing }

/-- R218, R217: port reads made between an acquire and the release of its token leave the state as they found it, all but the byte the
last call returned (the model's own field, log 2). -/
def Obligations.GuardedReadsLeaveNoTrace : Prop :=
  ∀ (s : State) (is : List Instr), s.powerOns ≠ 0 → (∀ i ∈ is, i.isPortRead = true) →
    execAll (.protectAcquire :: is ++ [.protectRelease s.isProtected]) s = .next { s with returned := .nothing }

/-- R216, R305: FB_READ returns the pixel at column `x`, row `y` and changes nothing; outside 256 x 240 it is refused (D46). -/
def Obligations.FbReadReturnsThePixelOrRefuses : Prop :=
  ∀ (s : State) (x y : Nat), s.powerOns ≠ 0 →
    (x ≤ 255 ∧ y ≤ 239 → exec (.fbRead x y) s = .next { s with returned := .pixel (s.fbPixel x y) }) ∧
    (255 < x ∨ 239 < y → exec (.fbRead x y) s = .refused .fbCoordinate)

/-! ### Time -/

/-- R212: without a frame ceiling STEP_TO(n) completes at `master = n`, or where it is when `n <= master` (D4). It leaves alone all that
R260 and R42 name: VRAM, OAM, every register but the three status flags, the mode and the ceiling. -/
def Obligations.StepToReachesItsTarget : Prop :=
  ∀ (s : State) (n : Nat), s.powerOns ≠ 0 → s.frameCeiling = none → ∃ t : State,
    exec (.stepTo n) s = .next t ∧
    t.time.master = max n s.time.master ∧
    (∀ a, t.vramRead a = s.vramRead a) ∧ (∀ a, t.oamRead a = s.oamRead a) ∧
    t = { s with
      regs := { s.regs with
        vblank := t.regs.vblank, sprite0Hit := t.regs.sprite0Hit, spriteOverflow := t.regs.spriteOverflow }
      time := t.time
      nmiLog := t.nmiLog
      fb := t.fb
      draws := t.draws
      returned := .nothing }

/-- R212: STEP_TO with a target not above `master`, or with the frame ceiling already exceeded, does nothing (D4, D26). -/
def Obligations.StepToDoesNothingWhenItCannotAdvance : Prop :=
  ∀ (s : State) (n : Nat), s.powerOns ≠ 0 →
    (n ≤ s.time.master ∨ ∃ c, s.frameCeiling = some c ∧ c < s.time.frame) →
      exec (.stepTo n) s = .next { s with returned := .nothing }

/-- R212: STEP_TO(m) followed by STEP_TO(n) has the effect of STEP_TO(n) alone, for `m <= n`, whatever the ceiling (D3, D4, D26). That the
two runs make the same draws is the model's choice (log 6: a draw is a function of the draw counter and of what rendering reads). -/
def Obligations.StepToComposes : Prop :=
  ∀ (s t : State) (m n : Nat), m ≤ n → exec (.stepTo m) s = .next t →
    exec (.stepTo n) t = exec (.stepTo n) s

/-- R264, R266: from a state of the invariant, STEP_TO leaves the block at the position its `master` names, whether or not the frame
ceiling stopped it; without a ceiling that `master` is the target, or where it was when the target is past (R212). Rests on D2 (start line
0), D3, D4, D26, D37 and D47 (the threshold 29658), the spec's decisions (log 9, log 13, log 14). -/
def Obligations.PositionFollowsMaster : Prop :=
  ∀ (s : State) (n : Nat), s.powerOns ≠ 0 → Inv s → ∃ t : State,
    exec (.stepTo n) s = .next t ∧
    t.time.dot = t.time.master % 341 ∧ t.time.scanline = t.time.master / 341 % 262 ∧
    t.time.frame = t.time.master / 89342 ∧ t.time.ready = decide (29658 < t.time.master) ∧
    t.time.master ≤ max n s.time.master ∧
    (s.frameCeiling = none → t.time.master = max n s.time.master)

/-- R213 (start line 0): with the ceiling `n` not exceeded, stepping far enough stops at `master = (n + 1) * 89342`, after frame `n` is
complete (D26, D37). -/
def Obligations.FrameCeilingStopsStepping : Prop :=
  ∀ (s : State) (n m : Nat), s.powerOns ≠ 0 → Inv s → s.frameCeiling = some n → s.time.frame ≤ n →
    (n + 1) * 89342 ≤ m → ∃ t : State,
      exec (.stepTo m) s = .next t ∧ t.time.master = (n + 1) * 89342 ∧ t.time.frame = n + 1

/-- R257: after every tick, `ready = (master > WARMUP_THRESHOLD)`, for every value of the threshold; so with the default it first becomes
true at the end of the tick that takes `master` from 29658 to 29659. It then stays true under every operation but POWER_ON and RESET. -/
def Obligations.ReadyFollowsMasterAfterEveryTick : Prop :=
  (∀ (P : Params) (s : State),
    ((tick P s).time.ready = true ↔ P.warmup < (tick P s).time.master) ∧
    (s.time.master = 29658 → P.warmup = 29658 → (tick P s).time.master = 29659 ∧ (tick P s).time.ready = true) ∧
    (s.time.master < 29658 → P.warmup = 29658 → (tick P s).time.ready = false)) ∧
  (∀ (s t : State) (i : Instr), Inv s → s.time.ready = true → i ≠ .powerOn → i ≠ .reset → exec i s = .next t →
    t.time.ready = true)

/-- R254: the tick at scanline 241, dot 1 sets the vblank flag. That this machine's does so in every phase is its parameter
FLAG_TIMING_IN_WARMUP, a decision of the spec (D28, log 9); with other parameters a tick does so wherever R252's `FlagTiming` holds. -/
def Obligations.VblankSetAtLine241Dot1 : Prop :=
  ∀ s : State, s.time.scanline = 241 → s.time.dot = 1 →
    (tick Config.params s).regs.vblank = true ∧
    ∀ P : Params, (P.flagTimingInWarmup = true ∨ s.time.phase = .render) → (tick P s).regs.vblank = true

/-- R255, R301, R302, R252: the tick at scanline 241, dot 1 appends one request tagged with its cycle if the NMI is enabled, and no other
tick appends a request or sets vblank, nor this one where `FlagTiming` does not hold (D28). Rests on D35. -/
def Obligations.OnlyTheVblankTickRequestsAnNmi : Prop :=
  ∀ (P : Params) (s : State),
    (s.time.scanline = 241 ∧ s.time.dot = 1 ∧ (P.flagTimingInWarmup = true ∨ s.time.phase = .render) →
      (tick P s).nmiLog = if s.regs.nmiEnable then s.nmiLog ++ [s.time.master] else s.nmiLog) ∧
    (¬ (s.time.scanline = 241 ∧ s.time.dot = 1 ∧ (P.flagTimingInWarmup = true ∨ s.time.phase = .render)) →
      (tick P s).nmiLog = s.nmiLog ∧ ((tick P s).regs.vblank = true → s.regs.vblank = true))

/-- R256, R262, R252: the tick at dot 1 of the pre-render line clears vblank, sprite-0 hit and sprite overflow where `FlagTiming` holds
(D28), and no other tick clears one of them. The line's number is D36, and that sprite evaluation only sets is D29. -/
def Obligations.OnlyThePreRenderTickClearsTheFlags : Prop :=
  ∀ (P : Params) (s : State),
    (s.time.scanline = 261 ∧ s.time.dot = 1 ∧ (P.flagTimingInWarmup = true ∨ s.time.phase = .render) →
      (tick P s).regs.vblank = false ∧ (tick P s).regs.sprite0Hit = false ∧ (tick P s).regs.spriteOverflow = false) ∧
    (¬ (s.time.scanline = 261 ∧ s.time.dot = 1 ∧ (P.flagTimingInWarmup = true ∨ s.time.phase = .render)) →
      (s.regs.vblank = true → (tick P s).regs.vblank = true) ∧
      (s.regs.sprite0Hit = true → (tick P s).regs.sprite0Hit = true) ∧
      (s.regs.spriteOverflow = true → (tick P s).regs.spriteOverflow = true))

/-- R265, R301, R302: over one full frame of stepping with the NMI enabled, exactly one request is made, at the frame's vblank tick. R265
takes `FlagTiming` as a premise: that it holds in every phase is D28, and that the vblank tick is 82182 in its frame is start line 0 (D2),
both this machine's parameters (log 9). The form of the request is D35. -/
def Obligations.OneNmiPerFrame : Prop :=
  ∀ s : State, s.powerOns ≠ 0 → Inv s → s.frameCeiling = none → s.regs.nmiEnable = true → ∃ (t : State) (c : Nat),
    exec (.stepTo (s.time.master + 89342)) s = .next t ∧
    t.nmiLog = s.nmiLog ++ [c] ∧ s.time.master ≤ c ∧ c < s.time.master + 89342 ∧ c % 89342 = 82182

/-- R259, R262, R263: stepping with rendering off writes no pixel, sets no sprite flag and makes no draw. Rests on D29, D30. -/
def Obligations.RenderOffDrawsNothing : Prop :=
  ∀ (s t : State) (n : Nat), s.regs.showBg = false → s.regs.showSprites = false → exec (.stepTo n) s = .next t →
    (∀ x y, t.fbPixel x y = s.fbPixel x y) ∧ t.draws = s.draws ∧
    (t.regs.sprite0Hit = true → s.regs.sprite0Hit = true) ∧
    (t.regs.spriteOverflow = true → s.regs.spriteOverflow = true)

/-- R263: a tick writes no pixel outside the row of its own visible line, and none on lines 240..261 (D30). -/
def Obligations.TickWritesOnlyItsOwnRow : Prop :=
  ∀ (P : Params) (s : State) (x y : Nat), x < 256 → (y ≠ s.time.scanline ∨ 240 ≤ s.time.scanline) →
    (tick P s).fbPixel x y = s.fbPixel x y

/-- R258, R8, R252: for every legal choice of the open thresholds each phase holds on its own range of `master`, and as `master` grows the
phase never goes back; every tick leaves the phase its new `master` names, and every operation keeps the phase the one that `master` names.
Rests on D27; that this machine's thresholds are legal is log 10. -/
def Obligations.PhaseProgressesOneWay : Prop :=
  Config.params.Legal ∧
  (∀ P : Params, P.Legal → ∀ m,
    (phaseAt P m = .powerOn ↔ m < P.tVbl1) ∧
    (phaseAt P m = .vbl1 ↔ P.tVbl1 ≤ m ∧ m < P.tVbl2) ∧
    (phaseAt P m = .vbl2 ↔ P.tVbl2 ≤ m ∧ m ≤ P.warmup) ∧
    (phaseAt P m = .ready ↔ P.warmup < m ∧ m < P.tRender) ∧
    (phaseAt P m = .render ↔ P.tRender ≤ m) ∧
    (phaseAt P (m + 1) = .powerOn → phaseAt P m = .powerOn) ∧
    (phaseAt P (m + 1) = .vbl1 → phaseAt P m = .powerOn ∨ phaseAt P m = .vbl1) ∧
    (phaseAt P (m + 1) = .vbl2 → phaseAt P m = .powerOn ∨ phaseAt P m = .vbl1 ∨ phaseAt P m = .vbl2) ∧
    (phaseAt P (m + 1) = .ready → phaseAt P m ≠ .render) ∧
    (phaseAt P m = .render → phaseAt P (m + 1) = .render)) ∧
  (∀ (P : Params) (s : State), (tick P s).time.phase = phaseAt P (tick P s).time.master) ∧
  (∀ (s t : State) (i : Instr), s.time.phase = phaseAt Config.params s.time.master → exec i s = .next t →
    t.time.phase = phaseAt Config.params t.time.master)

/-! ### Whole-machine rules -/

/-- R253, R21, R193: no operation but STEP_TO, POWER_ON and RESET changes `master`, `dot`, `scanline`, `frame`, `ready` or `phase`, and
none but STEP_TO and POWER_ON changes the interrupt log (R301). R44, R36, R37: under every operation but POWER_ON and RESET `master` and
`frame` never decrease, and `ready` never reverts. -/
def Obligations.OnlySteppingMovesTimeAndForward : Prop :=
  ∀ (s t : State) (i : Instr), exec i s = .next t →
    ((∀ n, i ≠ .stepTo n) → i ≠ .powerOn → i ≠ .reset → t.time = s.time) ∧
    ((∀ n, i ≠ .stepTo n) → i ≠ .powerOn → t.nmiLog = s.nmiLog) ∧
    (Inv s → i ≠ .powerOn → i ≠ .reset →
      s.time.master ≤ t.time.master ∧ s.time.frame ≤ t.time.frame ∧ (s.time.ready = true → t.time.ready = true))

/-- R20 (the "written by" column), R260: VRAM changes only under a DATA write, OAM only under an OAMDATA or OAMDMA write, the frame
buffer only under STEP_TO, but for POWER_ON. -/
def Obligations.MemoriesChangeOnlyUnderTheirWriters : Prop :=
  ∀ (s t : State) (i : Instr), exec i s = .next t → i ≠ .powerOn →
    ((∀ d, i ≠ .wrData d) → ∀ a, t.vramRead a = s.vramRead a) ∧
    ((∀ d, i ≠ .wrOamData d) → (∀ p, i ≠ .wrOamDma p) → ∀ a, t.oamRead a = s.oamRead a) ∧
    ((∀ n, i ≠ .stepTo n) → ∀ x y, t.fbPixel x y = s.fbPixel x y)

/-- R20 (the "written by" column), R30, R31, R34, R38, R39, R42: but for POWER_ON and RESET, the five CTRL fields are written only by CTRL
writes, the three MASK flags only by MASK writes, vblank only by STATUS reads and STEP_TO, the sprite flags only by STEP_TO, `oam_addr`
only by OAMADDR and OAMDATA writes, the scroll registers only by SCROLL writes, `vaddr` only by ADDR writes and DATA accesses, the toggle
only by SCROLL and ADDR writes and STATUS reads, the latch only by port writes and STATUS, OAMDATA and DATA reads (D13, D14, D20, D34),
`protected` only by the guard and `frame_ceiling` only by STOP_AFTER_FRAME. -/
def Obligations.RegistersChangeOnlyUnderTheirWriters : Prop :=
  ∀ (s t : State) (i : Instr), exec i s = .next t → i ≠ .powerOn → i ≠ .reset →
    ((∀ d, i ≠ .wrCtrl d) →
      t.regs.ntBase = s.regs.ntBase ∧ t.regs.bgPatternBase = s.regs.bgPatternBase ∧
      t.regs.spriteSize = s.regs.spriteSize ∧ t.regs.vinc = s.regs.vinc ∧ t.regs.nmiEnable = s.regs.nmiEnable) ∧
    ((∀ d, i ≠ .wrMask d) →
      t.regs.grayscale = s.regs.grayscale ∧ t.regs.showBg = s.regs.showBg ∧ t.regs.showSprites = s.regs.showSprites) ∧
    (i ≠ .rdStatus → (∀ n, i ≠ .stepTo n) → t.regs.vblank = s.regs.vblank) ∧
    ((∀ n, i ≠ .stepTo n) →
      t.regs.sprite0Hit = s.regs.sprite0Hit ∧ t.regs.spriteOverflow = s.regs.spriteOverflow) ∧
    ((∀ d, i ≠ .wrOamAddr d ∧ i ≠ .wrOamData d) → t.regs.oamAddr = s.regs.oamAddr) ∧
    ((∀ d, i ≠ .wrScroll d) → t.regs.scrollX = s.regs.scrollX ∧ t.regs.scrollY = s.regs.scrollY) ∧
    (i ≠ .rdData → (∀ d, i ≠ .wrAddr d ∧ i ≠ .wrData d) → t.regs.vaddr = s.regs.vaddr) ∧
    (i ≠ .rdStatus → (∀ d, i ≠ .wrScroll d ∧ i ≠ .wrAddr d) → t.regs.toggle = s.regs.toggle) ∧
    (i.isPortWrite = false → i ≠ .rdStatus → i ≠ .rdOamData → i ≠ .rdData → t.regs.latch = s.regs.latch) ∧
    (i ≠ .protectAcquire → (∀ b, i ≠ .protectRelease b) → t.isProtected = s.isProtected) ∧
    ((∀ n, i ≠ .stopAfterFrame n) → t.frameCeiling = s.frameCeiling)

/-- R43, R44: the invariant holds right after power-on (D2, D22). That it holds before the first POWER_ON too is the model's own, since the
spec gives that state no contents (log 3), and so is the clause on the memories (log 8). -/
def Obligations.ResetStateMeetsTheInvariant : Prop := Inv State.reset ∧ Inv State.beforePowerOn

/-- R44: every step of a state that meets the invariant gives a state that meets it. The canonical form of the memories, one of its
clauses, is the model's own (log 8). -/
def Obligations.StepKeepsTheInvariant : Prop :=
  ∀ s t : State, Inv s → step s = .next t → Inv t

/-- R304: from a state that meets the invariant no step ends in a fatal fault. That every state a run reaches meets the invariant is what
`ResetStateMeetsTheInvariant` and `StepKeepsTheInvariant` say. Rests on D6 and D38; where the assertions stand is log 11. -/
def Obligations.NoFatalFaultIsReachable : Prop :=
  ∀ s : State, Inv s → SafeStep s
end

