-- ==== Sys2Proof/Laws/Cells.lean ====
section
/-! SUPPORT. The laws of a memory held as cells: read after write, every other address untouched, and the canonical form kept. -/

namespace Sys2Proof.Machine.Cells

variable {α : Type}

@[simp] theorem find_nil (a : Nat) : find ([] : List (Nat × α)) a = none := rfl

@[simp] theorem find_write_same (cells : List (Nat × α)) (a : Nat) (v : α) : find (write cells a v) a = some v := by
  induction cells with
  | nil => simp [write, find]
  | cons c rest ih =>
    obtain ⟨b, w⟩ := c
    simp only [write]
    split
    · simp [find]
    · split
      · simp [find]
      · simp_all [find]

theorem find_write_ne (cells : List (Nat × α)) {a b : Nat} (v : α) (h : b ≠ a) : find (write cells a v) b = find cells b := by
  induction cells with
  | nil => simp [write, find, h]
  | cons c rest ih =>
    obtain ⟨k, w⟩ := c
    simp only [write]
    split
    · next e => subst e; simp [find, h]
    · split
      · next _ lt =>
        by_cases hb : b < a
        · have : b ≠ k := by omega
          have : b < k := by omega
          simp [find, *]
        · simp [find, h, hb]
      · simp [find, ih]

theorem find_write (cells : List (Nat × α)) (a b : Nat) (v : α) :
    find (write cells a v) b = if b = a then some v else find cells b := by
  by_cases h : b = a
  · subst h; simp
  · simp [find_write_ne cells v h, h]

theorem risesFrom_mono (hi : Nat) {lo lo' : Nat} (h : lo' ≤ lo) (cells : List (Nat × α)) (hr : risesFrom hi lo cells = true) :
    risesFrom hi lo' cells = true := by
  cases cells with
  | nil => rfl
  | cons c rest => simp_all [risesFrom]; omega

theorem risesFrom_write (hi lo a : Nat) (v : α) (cells : List (Nat × α)) (hlo : lo ≤ a) (hhi : a < hi)
    (hr : risesFrom hi lo cells = true) : risesFrom hi lo (write cells a v) = true := by
  induction cells generalizing lo with
  | nil => simp [write, risesFrom, hlo, hhi]
  | cons c rest ih =>
    obtain ⟨b, w⟩ := c
    simp only [risesFrom, Bool.and_eq_true, decide_eq_true_eq] at hr
    obtain ⟨⟨hb, hbhi⟩, hrest⟩ := hr
    simp only [write]
    split
    · next e => subst e; simp [risesFrom, hlo, hhi, hrest]
    · split
      · next lt => simp [risesFrom, hlo, hhi, hbhi, hrest]; omega
      · have := ih (b + 1) (by omega) hrest
        simp [risesFrom, hb, hbhi, this]

/-- A write inside the memory keeps its canonical form. -/
theorem wf_write (size a : Nat) (v : α) (cells : List (Nat × α)) (ha : a < size) (h : wf size cells = true) :
    wf size (write cells a v) = true :=
  risesFrom_write size 0 a v cells (Nat.zero_le a) ha h

@[simp] theorem wf_nil (size : Nat) : wf size ([] : List (Nat × α)) = true := rfl

@[simp] theorem writeAll_nil (cells : List (Nat × α)) : writeAll cells [] = cells := rfl

@[simp] theorem writeAll_cons (cells : List (Nat × α)) (w : Nat × α) (ws : List (Nat × α)) :
    writeAll cells (w :: ws) = writeAll (write cells w.1 w.2) ws := rfl

/-- Writes inside the memory keep its canonical form. -/
theorem wf_writeAll (size : Nat) (ws : List (Nat × α)) (cells : List (Nat × α)) (hw : ∀ w ∈ ws, w.1 < size)
    (h : wf size cells = true) : wf size (writeAll cells ws) = true := by
  induction ws generalizing cells with
  | nil => exact h
  | cons w ws ih =>
    exact ih (write cells w.1 w.2) (fun u hu => hw u (List.mem_cons_of_mem _ hu))
      (wf_write size w.1 w.2 cells (hw w List.mem_cons_self) h)

/-- An address no write names is untouched. -/
theorem find_writeAll_of_not_mem (ws : List (Nat × α)) (cells : List (Nat × α)) (b : Nat) (h : ∀ w ∈ ws, w.1 ≠ b) :
    find (writeAll cells ws) b = find cells b := by
  induction ws generalizing cells with
  | nil => rfl
  | cons w ws ih =>
    rw [writeAll_cons, ih _ (fun u hu => h u (List.mem_cons_of_mem _ hu)),
      find_write_ne _ _ (Ne.symm (h w List.mem_cons_self))]

/-- Where the writes' addresses are distinct, each one reads back. -/
theorem find_writeAll_of_mem (ws : List (Nat × α)) (cells : List (Nat × α)) (b : Nat) (v : α)
    (hd : (ws.map Prod.fst).Nodup) (h : (b, v) ∈ ws) : find (writeAll cells ws) b = some v := by
  induction ws generalizing cells with
  | nil => simp at h
  | cons w ws ih =>
    rw [List.map_cons, List.nodup_cons] at hd
    rw [writeAll_cons]
    rcases List.mem_cons.mp h with h | h
    · subst h
      rw [find_writeAll_of_not_mem]
      · simp
      · intro u hu e
        exact hd.1 (List.mem_map.mpr ⟨u, hu, e⟩)
    · exact ih _ hd.2 h

end Sys2Proof.Machine.Cells
end

