-- ==== Sys2Proof/Laws/Decode.lean ====
section
/-! SUPPORT. The fields of a word built from its fields (30_encoding.md R100), and every word as the word of its fields. -/

namespace Sys2Proof

variable (h r : Bool) (a : Addr) (d : Byte)

@[simp] theorem fieldH_txWord : fieldH (txWord h r a d) = h := by
  unfold fieldH txWord
  simp only [BitVec.getLsbD_append]
  simp

@[simp] theorem fieldR_txWord : fieldR (txWord h r a d) = r := by
  unfold fieldR txWord
  simp only [BitVec.getLsbD_append]
  simp

@[simp] theorem fieldA_txWord : fieldA (txWord h r a d) = a := by
  unfold fieldA txWord
  ext i hi
  simp only [BitVec.getElem_extractLsb', BitVec.getLsbD_append]
  have h1 : ¬ 8 + i < 8 := by omega
  have h2 : 8 + i - 8 = i := by omega
  simp [hi, h1, h2]

@[simp] theorem fieldD_txWord : fieldD (txWord h r a d) = d := by
  unfold fieldD txWord
  ext i hi
  simp only [BitVec.getElem_extractLsb', BitVec.getLsbD_append]
  simp [hi]

/-- A word is the word of its four fields (R100). -/
theorem txWord_fields (w : TxWord) : txWord (fieldH w) (fieldR w) (fieldA w) (fieldD w) = w := by
  apply BitVec.eq_of_getLsbD_eq
  intro i hi
  simp only [txWord, fieldH, fieldR, fieldA, fieldD, BitVec.getLsbD_append, BitVec.getLsbD_extractLsb', BitVec.getLsbD_ofBool]
  by_cases h8 : i < 8
  · simp [h8]
  · by_cases h24 : i - 8 < 16
    · have : 8 + (i - 8) = i := by omega
      simp [h8, h24, this]
    · have : i = 24 ∨ i = 25 := by omega
      rcases this with rfl | rfl <;> simp

variable {a d}

/-- An accepted port write is the encoding of its operation (R103). -/
theorem encode_of_decodePortWrite {i : Instr} (hd : decodePortWrite a d = .ok i) : encode i = portWriteTx a d := by
  unfold decodePortWrite at hd
  repeat' split at hd
  all_goals first
    | (cases hd; subst_vars; rfl)
    | cases hd

/-- An accepted port read is the encoding of its operation (R103). -/
theorem encode_of_decodePortRead {i : Instr} (hd : decodePortRead a = .ok i) : encode i = portReadTx a := by
  unfold decodePortRead at hd
  repeat' split at hd
  all_goals first
    | (cases hd; subst_vars; rfl)
    | cases hd

/-- An accepted host call is the encoding of its operation, but for the argument slots it does not read (R102, R104). -/
theorem encode_of_decodeHostCall {arg : HostArg} {i : Instr} (hd : decodeHostCall a arg = .ok i) :
    (encode i).word = (hostCallTx a arg).word := by
  unfold decodeHostCall at hd
  repeat' split at hd
  all_goals first
    | (cases hd; subst_vars; rfl)
    | cases hd

/-- The port writes that are refused (R105, R110). -/
theorem decodePortWrite_eq_error (a : Addr) (d : Byte) :
    decodePortWrite a d = .error .notAPpuPort ↔ ¬ (0x2000 ≤ a.toNat ∧ a.toNat ≤ 0x2007) ∧ a.toNat ≠ 0x4014 := by
  unfold decodePortWrite
  constructor
  · intro hd
    repeat' split at hd
    all_goals first
      | (cases hd; done)
      | (constructor <;> bv_omega)
  · rintro ⟨h1, h2⟩
    iterate 9 rw [if_neg (by bv_omega)]

/-- The port reads that are refused (R105, R195). -/
theorem decodePortRead_eq_error (a : Addr) :
    decodePortRead a = .error .notAPpuPort ↔ ¬ (0x2000 ≤ a.toNat ∧ a.toNat ≤ 0x2007) := by
  unfold decodePortRead
  constructor
  · intro hd
    repeat' split at hd
    all_goals first
      | (cases hd; done)
      | bv_omega
  · intro h1
    iterate 8 rw [if_neg (by bv_omega)]

/-- The host calls that are refused (R105, R110). -/
theorem decodeHostCall_eq_error (a : Addr) (arg : HostArg) :
    decodeHostCall a arg = .error .reservedHostEncoding ↔ 6 < a.toNat := by
  unfold decodeHostCall
  constructor
  · intro hd
    repeat' split at hd
    all_goals first
      | (cases hd; done)
      | bv_omega
  · intro h1
    iterate 7 rw [if_neg (by bv_omega)]

end Sys2Proof
end

