-- ==== Sys2Proof/Laws/Operands.lean ====
section
/-! SUPPORT. The laws of the operand assembly (30_encoding.md R106, R109) and of the address translator (20_memory.md R64-R68). -/

namespace Sys2Proof.Machine

/-- A 14-bit address is below 0x4000. -/
theorem masked_toNat (a : Addr) : (a &&& 0x3FFF).toNat = a.toNat % 0x4000 := by
  rw [BitVec.toNat_and]
  exact Nat.and_two_pow_sub_one_eq_mod a.toNat 14

theorem and_toNat_le_right (a b : Addr) : (a &&& b).toNat ≤ b.toNat := by
  rw [BitVec.toNat_and]
  exact Nat.and_le_right

theorem and_toNat_le_left (a b : Addr) : (a &&& b).toNat ≤ a.toNat := by
  rw [BitVec.toNat_and]
  exact Nat.and_le_left

/-- The name-table mirror never raises an address (R65). -/
theorem foldNameTable_toNat_le (a : Addr) : (foldNameTable a).toNat ≤ a.toNat := by
  unfold foldNameTable
  split
  · next h => bv_omega
  · exact Nat.le_refl _

/-- The palette mirror never raises an address (R66). -/
theorem foldPalette_toNat_le (m : PaletteMirror) (a : Addr) : (foldPalette m a).toNat ≤ a.toNat := by
  unfold foldPalette
  split
  · split
    · exact (and_toNat_le_left _ _).trans (and_toNat_le_left _ _)
    · exact and_toNat_le_left _ _
  · exact Nat.le_refl _

/-- `Translate` never raises an address, so it keeps 14-bit addresses in range (R68). -/
theorem translate_toNat_le (m : PaletteMirror) (a : Addr) : (translate m a).toNat ≤ a.toNat :=
  (foldPalette_toNat_le m _).trans (foldNameTable_toNat_le a)

/-- A DATA access selects a location of VRAM, whatever `vaddr` holds (R67, R304). -/
theorem dataLocation_lt (m : PaletteMirror) (vaddr : Addr) : (dataLocation m vaddr).toNat < 0x4000 := by
  have h := translate_toNat_le m (vaddr &&& 0x3FFF)
  rw [masked_toNat] at h
  exact Nat.lt_of_le_of_lt h (Nat.mod_lt _ (by decide))

/-- The byte assemblies of an ADDR write as arithmetic (R109). -/
theorem withLowByte_eq (a : Addr) (d : Byte) : withLowByte a d = BitVec.ofNat 16 (256 * (a.toNat / 256) + d.toNat) := by
  apply BitVec.eq_of_toNat_eq
  have hd := d.isLt
  have ha := a.isLt
  have hmask : a &&& 0xFF00#16 = (a >>> 8) <<< 8 := by
    ext i hi
    have hbit := (show ∀ i : Nat, i < 16 → ((0xFF00#16).getLsbD i = !decide (i < 8)) by decide) i hi
    simp only [BitVec.getLsbD_eq_getElem hi] at hbit
    simp only [BitVec.getElem_and, BitVec.getElem_shiftLeft, hbit]
    by_cases h8 : i < 8
    · simp [h8]
    · have : 8 + (i - 8) = i := by omega
      simp [h8, this, BitVec.getLsbD_eq_getElem hi]
  have hhigh : (a &&& 0xFF00#16).toNat = (a.toNat / 256) <<< 8 := by
    rw [hmask]
    simp [Nat.shiftRight_eq_div_pow, Nat.shiftLeft_eq]
    omega
  unfold withLowByte
  show (a &&& 0xFF00#16 ||| _).toNat = _
  rw [BitVec.toNat_or, hhigh]
  simp only [BitVec.toNat_setWidth, BitVec.toNat_ofNat]
  rw [Nat.mod_eq_of_lt (by omega : d.toNat < 2 ^ 16), ← Nat.shiftLeft_add_eq_or_of_lt (by omega), Nat.shiftLeft_eq]
  omega

theorem withHighByte_eq (a : Addr) (d : Byte) : withHighByte a d = BitVec.ofNat 16 (256 * d.toNat + a.toNat % 256) := by
  apply BitVec.eq_of_toNat_eq
  have hd := d.isLt
  have hlow : (a &&& 0x00FF).toNat = a.toNat % 256 := by
    rw [BitVec.toNat_and]
    exact Nat.and_two_pow_sub_one_eq_mod a.toNat 8
  have hhigh : (d.setWidth 16 <<< 8).toNat = d.toNat <<< 8 := by
    simp [Nat.shiftLeft_eq]
    omega
  unfold withHighByte
  rw [BitVec.toNat_or, hlow, hhigh, ← Nat.shiftLeft_add_eq_or_of_lt (by omega), Nat.shiftLeft_eq]
  simp
  omega

/-- The palette mirror leaves every address below its region alone (R66). -/
theorem foldPalette_below (m : PaletteMirror) (a : Addr) (h : a.toNat < 0x3F00) : foldPalette m a = a := by
  unfold foldPalette
  rw [if_neg]
  intro h'
  have hn := congrArg BitVec.toNat h'
  rw [BitVec.toNat_and, BitVec.toNat_ushiftRight, Nat.shiftRight_eq_div_pow] at hn
  have hn : a.toNat / 2 ^ 8 &&& 63 = 63 := hn
  rw [show a.toNat / 2 ^ 8 &&& 63 = a.toNat / 2 ^ 8 % 64 from Nat.and_two_pow_sub_one_eq_mod _ 6] at hn
  omega

/-- The name-table mirror leaves every address outside its region alone (R65). -/
theorem foldNameTable_off (a : Addr) (h : a.toNat < 0x3000 ∨ 0x3F00 ≤ a.toNat) : foldNameTable a = a := by
  unfold foldNameTable
  rw [if_neg]
  rintro ⟨h1, h2⟩
  rcases h with h | h <;> bv_omega

/-- The name-table mirror inside its region (R65). -/
theorem foldNameTable_in (a : Addr) (h1 : 0x3000 ≤ a.toNat) (h2 : a.toNat < 0x3F00) : foldNameTable a = a - 0x1000 := by
  unfold foldNameTable
  rw [if_pos]
  constructor <;> bv_omega

/-- `Translate` below the mirror regions is the identity (R69). -/
theorem translate_low (m : PaletteMirror) (a : Addr) (h : a.toNat < 0x3000) : translate m a = a := by
  unfold translate
  rw [foldNameTable_off _ (Or.inl h), foldPalette_below _ _ (by omega)]

theorem ctrlVinc_legal (d : Byte) : ctrlVinc d = 1 ∨ ctrlVinc d = 32 := by
  unfold ctrlVinc
  split <;> simp

theorem ctrlNtBase_legal (d : Byte) :
    ctrlNtBase d = 0x2000 ∨ ctrlNtBase d = 0x2400 ∨ ctrlNtBase d = 0x2800 ∨ ctrlNtBase d = 0x2C00 := by
  revert d
  decide

theorem ctrlBgPatternBase_legal (d : Byte) : ctrlBgPatternBase d = 0x0000 ∨ ctrlBgPatternBase d = 0x1000 := by
  revert d
  decide

/-- A pixel of the frame buffer has an index of the frame buffer (R63). -/
theorem pixelIndex_lt {x y : Nat} (hx : x < 256) (hy : y < 240) : pixelIndex x y < 61440 := by
  unfold pixelIndex
  omega

end Sys2Proof.Machine
end

