-- ==== Sys2Proof/Laws/State.lean ====
section
/-! SUPPORT. One lemma per field for each named update of the state, so that no later proof unfolds an update. Where an update leaves a
whole part of the state alone, one lemma says so for that part. -/

namespace Sys2Proof.Machine

/-! ### recordLatch (R130) -/

@[simp] theorem State.recordLatch_time (s : State) (v : Byte) : (s.recordLatch v).time = s.time := by unfold State.recordLatch; split <;> rfl
@[simp] theorem State.recordLatch_isProtected (s : State) (v : Byte) : (s.recordLatch v).isProtected = s.isProtected := by unfold State.recordLatch; split <;> rfl
@[simp] theorem State.recordLatch_frameCeiling (s : State) (v : Byte) : (s.recordLatch v).frameCeiling = s.frameCeiling := by unfold State.recordLatch; split <;> rfl
@[simp] theorem State.recordLatch_nmiLog (s : State) (v : Byte) : (s.recordLatch v).nmiLog = s.nmiLog := by unfold State.recordLatch; split <;> rfl
@[simp] theorem State.recordLatch_vram (s : State) (v : Byte) : (s.recordLatch v).vram = s.vram := by unfold State.recordLatch; split <;> rfl
@[simp] theorem State.recordLatch_oam (s : State) (v : Byte) : (s.recordLatch v).oam = s.oam := by unfold State.recordLatch; split <;> rfl
@[simp] theorem State.recordLatch_fb (s : State) (v : Byte) : (s.recordLatch v).fb = s.fb := by unfold State.recordLatch; split <;> rfl
@[simp] theorem State.recordLatch_powerOns (s : State) (v : Byte) : (s.recordLatch v).powerOns = s.powerOns := by unfold State.recordLatch; split <;> rfl
@[simp] theorem State.recordLatch_draws (s : State) (v : Byte) : (s.recordLatch v).draws = s.draws := by unfold State.recordLatch; split <;> rfl
@[simp] theorem State.recordLatch_returned (s : State) (v : Byte) : (s.recordLatch v).returned = s.returned := by unfold State.recordLatch; split <;> rfl
@[simp] theorem State.recordLatch_pending (s : State) (v : Byte) : (s.recordLatch v).pending = s.pending := by unfold State.recordLatch; split <;> rfl
@[simp] theorem State.recordLatch_regs_ntBase (s : State) (v : Byte) : (s.recordLatch v).regs.ntBase = s.regs.ntBase := by unfold State.recordLatch; split <;> rfl
@[simp] theorem State.recordLatch_regs_bgPatternBase (s : State) (v : Byte) : (s.recordLatch v).regs.bgPatternBase = s.regs.bgPatternBase := by unfold State.recordLatch; split <;> rfl
@[simp] theorem State.recordLatch_regs_spriteSize (s : State) (v : Byte) : (s.recordLatch v).regs.spriteSize = s.regs.spriteSize := by unfold State.recordLatch; split <;> rfl
@[simp] theorem State.recordLatch_regs_vinc (s : State) (v : Byte) : (s.recordLatch v).regs.vinc = s.regs.vinc := by unfold State.recordLatch; split <;> rfl
@[simp] theorem State.recordLatch_regs_nmiEnable (s : State) (v : Byte) : (s.recordLatch v).regs.nmiEnable = s.regs.nmiEnable := by unfold State.recordLatch; split <;> rfl
@[simp] theorem State.recordLatch_regs_grayscale (s : State) (v : Byte) : (s.recordLatch v).regs.grayscale = s.regs.grayscale := by unfold State.recordLatch; split <;> rfl
@[simp] theorem State.recordLatch_regs_showBg (s : State) (v : Byte) : (s.recordLatch v).regs.showBg = s.regs.showBg := by unfold State.recordLatch; split <;> rfl
@[simp] theorem State.recordLatch_regs_showSprites (s : State) (v : Byte) : (s.recordLatch v).regs.showSprites = s.regs.showSprites := by unfold State.recordLatch; split <;> rfl
@[simp] theorem State.recordLatch_regs_vblank (s : State) (v : Byte) : (s.recordLatch v).regs.vblank = s.regs.vblank := by unfold State.recordLatch; split <;> rfl
@[simp] theorem State.recordLatch_regs_sprite0Hit (s : State) (v : Byte) : (s.recordLatch v).regs.sprite0Hit = s.regs.sprite0Hit := by unfold State.recordLatch; split <;> rfl
@[simp] theorem State.recordLatch_regs_spriteOverflow (s : State) (v : Byte) : (s.recordLatch v).regs.spriteOverflow = s.regs.spriteOverflow := by unfold State.recordLatch; split <;> rfl
@[simp] theorem State.recordLatch_regs_oamAddr (s : State) (v : Byte) : (s.recordLatch v).regs.oamAddr = s.regs.oamAddr := by unfold State.recordLatch; split <;> rfl
@[simp] theorem State.recordLatch_regs_scrollX (s : State) (v : Byte) : (s.recordLatch v).regs.scrollX = s.regs.scrollX := by unfold State.recordLatch; split <;> rfl
@[simp] theorem State.recordLatch_regs_scrollY (s : State) (v : Byte) : (s.recordLatch v).regs.scrollY = s.regs.scrollY := by unfold State.recordLatch; split <;> rfl
@[simp] theorem State.recordLatch_regs_vaddr (s : State) (v : Byte) : (s.recordLatch v).regs.vaddr = s.regs.vaddr := by unfold State.recordLatch; split <;> rfl
@[simp] theorem State.recordLatch_regs_toggle (s : State) (v : Byte) : (s.recordLatch v).regs.toggle = s.regs.toggle := by unfold State.recordLatch; split <;> rfl
@[simp] theorem State.recordLatch_regs_latch (s : State) (v : Byte) : (s.recordLatch v).regs.latch = if s.isProtected then s.regs.latch else v := by unfold State.recordLatch; split <;> rfl

/-! ### answer (R101) -/

@[simp] theorem State.answer_regs (s : State) (r : Returned) : (s.answer r).regs = s.regs := rfl
@[simp] theorem State.answer_time (s : State) (r : Returned) : (s.answer r).time = s.time := rfl
@[simp] theorem State.answer_isProtected (s : State) (r : Returned) : (s.answer r).isProtected = s.isProtected := rfl
@[simp] theorem State.answer_frameCeiling (s : State) (r : Returned) : (s.answer r).frameCeiling = s.frameCeiling := rfl
@[simp] theorem State.answer_nmiLog (s : State) (r : Returned) : (s.answer r).nmiLog = s.nmiLog := rfl
@[simp] theorem State.answer_vram (s : State) (r : Returned) : (s.answer r).vram = s.vram := rfl
@[simp] theorem State.answer_oam (s : State) (r : Returned) : (s.answer r).oam = s.oam := rfl
@[simp] theorem State.answer_fb (s : State) (r : Returned) : (s.answer r).fb = s.fb := rfl
@[simp] theorem State.answer_powerOns (s : State) (r : Returned) : (s.answer r).powerOns = s.powerOns := rfl
@[simp] theorem State.answer_draws (s : State) (r : Returned) : (s.answer r).draws = s.draws := rfl
@[simp] theorem State.answer_returned (s : State) (r : Returned) : (s.answer r).returned = r := rfl
@[simp] theorem State.answer_pending (s : State) (r : Returned) : (s.answer r).pending = s.pending := rfl

/-! ### vramWrite, oamWrite (R10) -/

@[simp] theorem State.vramWrite_regs (s : State) (i : Nat) (v : Byte) : (s.vramWrite i v).regs = s.regs := rfl
@[simp] theorem State.vramWrite_time (s : State) (i : Nat) (v : Byte) : (s.vramWrite i v).time = s.time := rfl
@[simp] theorem State.vramWrite_isProtected (s : State) (i : Nat) (v : Byte) : (s.vramWrite i v).isProtected = s.isProtected := rfl
@[simp] theorem State.vramWrite_frameCeiling (s : State) (i : Nat) (v : Byte) : (s.vramWrite i v).frameCeiling = s.frameCeiling := rfl
@[simp] theorem State.vramWrite_nmiLog (s : State) (i : Nat) (v : Byte) : (s.vramWrite i v).nmiLog = s.nmiLog := rfl
@[simp] theorem State.vramWrite_vram (s : State) (i : Nat) (v : Byte) : (s.vramWrite i v).vram = Cells.write s.vram i v := rfl
@[simp] theorem State.vramWrite_oam (s : State) (i : Nat) (v : Byte) : (s.vramWrite i v).oam = s.oam := rfl
@[simp] theorem State.vramWrite_fb (s : State) (i : Nat) (v : Byte) : (s.vramWrite i v).fb = s.fb := rfl
@[simp] theorem State.vramWrite_powerOns (s : State) (i : Nat) (v : Byte) : (s.vramWrite i v).powerOns = s.powerOns := rfl
@[simp] theorem State.vramWrite_draws (s : State) (i : Nat) (v : Byte) : (s.vramWrite i v).draws = s.draws := rfl
@[simp] theorem State.vramWrite_returned (s : State) (i : Nat) (v : Byte) : (s.vramWrite i v).returned = s.returned := rfl
@[simp] theorem State.vramWrite_pending (s : State) (i : Nat) (v : Byte) : (s.vramWrite i v).pending = s.pending := rfl
@[simp] theorem State.oamWrite_regs (s : State) (i : Nat) (v : Byte) : (s.oamWrite i v).regs = s.regs := rfl
@[simp] theorem State.oamWrite_time (s : State) (i : Nat) (v : Byte) : (s.oamWrite i v).time = s.time := rfl
@[simp] theorem State.oamWrite_isProtected (s : State) (i : Nat) (v : Byte) : (s.oamWrite i v).isProtected = s.isProtected := rfl
@[simp] theorem State.oamWrite_frameCeiling (s : State) (i : Nat) (v : Byte) : (s.oamWrite i v).frameCeiling = s.frameCeiling := rfl
@[simp] theorem State.oamWrite_nmiLog (s : State) (i : Nat) (v : Byte) : (s.oamWrite i v).nmiLog = s.nmiLog := rfl
@[simp] theorem State.oamWrite_vram (s : State) (i : Nat) (v : Byte) : (s.oamWrite i v).vram = s.vram := rfl
@[simp] theorem State.oamWrite_oam (s : State) (i : Nat) (v : Byte) : (s.oamWrite i v).oam = Cells.write s.oam i v := rfl
@[simp] theorem State.oamWrite_fb (s : State) (i : Nat) (v : Byte) : (s.oamWrite i v).fb = s.fb := rfl
@[simp] theorem State.oamWrite_powerOns (s : State) (i : Nat) (v : Byte) : (s.oamWrite i v).powerOns = s.powerOns := rfl
@[simp] theorem State.oamWrite_draws (s : State) (i : Nat) (v : Byte) : (s.oamWrite i v).draws = s.draws := rfl
@[simp] theorem State.oamWrite_returned (s : State) (i : Nat) (v : Byte) : (s.oamWrite i v).returned = s.returned := rfl
@[simp] theorem State.oamWrite_pending (s : State) (i : Nat) (v : Byte) : (s.oamWrite i v).pending = s.pending := rfl

/-! ### acceptCtrl (R132) -/

@[simp] theorem State.acceptCtrl_time (s : State) (d : Byte) : (s.acceptCtrl d).time = s.time := rfl
@[simp] theorem State.acceptCtrl_isProtected (s : State) (d : Byte) : (s.acceptCtrl d).isProtected = s.isProtected := rfl
@[simp] theorem State.acceptCtrl_frameCeiling (s : State) (d : Byte) : (s.acceptCtrl d).frameCeiling = s.frameCeiling := rfl
@[simp] theorem State.acceptCtrl_nmiLog (s : State) (d : Byte) : (s.acceptCtrl d).nmiLog = s.nmiLog := rfl
@[simp] theorem State.acceptCtrl_vram (s : State) (d : Byte) : (s.acceptCtrl d).vram = s.vram := rfl
@[simp] theorem State.acceptCtrl_oam (s : State) (d : Byte) : (s.acceptCtrl d).oam = s.oam := rfl
@[simp] theorem State.acceptCtrl_fb (s : State) (d : Byte) : (s.acceptCtrl d).fb = s.fb := rfl
@[simp] theorem State.acceptCtrl_powerOns (s : State) (d : Byte) : (s.acceptCtrl d).powerOns = s.powerOns := rfl
@[simp] theorem State.acceptCtrl_draws (s : State) (d : Byte) : (s.acceptCtrl d).draws = s.draws := rfl
@[simp] theorem State.acceptCtrl_returned (s : State) (d : Byte) : (s.acceptCtrl d).returned = s.returned := rfl
@[simp] theorem State.acceptCtrl_pending (s : State) (d : Byte) : (s.acceptCtrl d).pending = s.pending := rfl
@[simp] theorem State.acceptCtrl_regs_ntBase (s : State) (d : Byte) : (s.acceptCtrl d).regs.ntBase = ctrlNtBase d := rfl
@[simp] theorem State.acceptCtrl_regs_bgPatternBase (s : State) (d : Byte) : (s.acceptCtrl d).regs.bgPatternBase = ctrlBgPatternBase d := rfl
@[simp] theorem State.acceptCtrl_regs_spriteSize (s : State) (d : Byte) : (s.acceptCtrl d).regs.spriteSize = ctrlSpriteSize d := rfl
@[simp] theorem State.acceptCtrl_regs_vinc (s : State) (d : Byte) : (s.acceptCtrl d).regs.vinc = ctrlVinc d := rfl
@[simp] theorem State.acceptCtrl_regs_nmiEnable (s : State) (d : Byte) : (s.acceptCtrl d).regs.nmiEnable = ctrlNmiEnable d := rfl
@[simp] theorem State.acceptCtrl_regs_grayscale (s : State) (d : Byte) : (s.acceptCtrl d).regs.grayscale = s.regs.grayscale := rfl
@[simp] theorem State.acceptCtrl_regs_showBg (s : State) (d : Byte) : (s.acceptCtrl d).regs.showBg = s.regs.showBg := rfl
@[simp] theorem State.acceptCtrl_regs_showSprites (s : State) (d : Byte) : (s.acceptCtrl d).regs.showSprites = s.regs.showSprites := rfl
@[simp] theorem State.acceptCtrl_regs_vblank (s : State) (d : Byte) : (s.acceptCtrl d).regs.vblank = s.regs.vblank := rfl
@[simp] theorem State.acceptCtrl_regs_sprite0Hit (s : State) (d : Byte) : (s.acceptCtrl d).regs.sprite0Hit = s.regs.sprite0Hit := rfl
@[simp] theorem State.acceptCtrl_regs_spriteOverflow (s : State) (d : Byte) : (s.acceptCtrl d).regs.spriteOverflow = s.regs.spriteOverflow := rfl
@[simp] theorem State.acceptCtrl_regs_oamAddr (s : State) (d : Byte) : (s.acceptCtrl d).regs.oamAddr = s.regs.oamAddr := rfl
@[simp] theorem State.acceptCtrl_regs_scrollX (s : State) (d : Byte) : (s.acceptCtrl d).regs.scrollX = s.regs.scrollX := rfl
@[simp] theorem State.acceptCtrl_regs_scrollY (s : State) (d : Byte) : (s.acceptCtrl d).regs.scrollY = s.regs.scrollY := rfl
@[simp] theorem State.acceptCtrl_regs_vaddr (s : State) (d : Byte) : (s.acceptCtrl d).regs.vaddr = s.regs.vaddr := rfl
@[simp] theorem State.acceptCtrl_regs_toggle (s : State) (d : Byte) : (s.acceptCtrl d).regs.toggle = s.regs.toggle := rfl
@[simp] theorem State.acceptCtrl_regs_latch (s : State) (d : Byte) : (s.acceptCtrl d).regs.latch = s.regs.latch := rfl

/-! ### acceptMask (R134) -/

@[simp] theorem State.acceptMask_time (s : State) (d : Byte) : (s.acceptMask d).time = s.time := rfl
@[simp] theorem State.acceptMask_isProtected (s : State) (d : Byte) : (s.acceptMask d).isProtected = s.isProtected := rfl
@[simp] theorem State.acceptMask_frameCeiling (s : State) (d : Byte) : (s.acceptMask d).frameCeiling = s.frameCeiling := rfl
@[simp] theorem State.acceptMask_nmiLog (s : State) (d : Byte) : (s.acceptMask d).nmiLog = s.nmiLog := rfl
@[simp] theorem State.acceptMask_vram (s : State) (d : Byte) : (s.acceptMask d).vram = s.vram := rfl
@[simp] theorem State.acceptMask_oam (s : State) (d : Byte) : (s.acceptMask d).oam = s.oam := rfl
@[simp] theorem State.acceptMask_fb (s : State) (d : Byte) : (s.acceptMask d).fb = s.fb := rfl
@[simp] theorem State.acceptMask_powerOns (s : State) (d : Byte) : (s.acceptMask d).powerOns = s.powerOns := rfl
@[simp] theorem State.acceptMask_draws (s : State) (d : Byte) : (s.acceptMask d).draws = s.draws := rfl
@[simp] theorem State.acceptMask_returned (s : State) (d : Byte) : (s.acceptMask d).returned = s.returned := rfl
@[simp] theorem State.acceptMask_pending (s : State) (d : Byte) : (s.acceptMask d).pending = s.pending := rfl
@[simp] theorem State.acceptMask_regs_ntBase (s : State) (d : Byte) : (s.acceptMask d).regs.ntBase = s.regs.ntBase := rfl
@[simp] theorem State.acceptMask_regs_bgPatternBase (s : State) (d : Byte) : (s.acceptMask d).regs.bgPatternBase = s.regs.bgPatternBase := rfl
@[simp] theorem State.acceptMask_regs_spriteSize (s : State) (d : Byte) : (s.acceptMask d).regs.spriteSize = s.regs.spriteSize := rfl
@[simp] theorem State.acceptMask_regs_vinc (s : State) (d : Byte) : (s.acceptMask d).regs.vinc = s.regs.vinc := rfl
@[simp] theorem State.acceptMask_regs_nmiEnable (s : State) (d : Byte) : (s.acceptMask d).regs.nmiEnable = s.regs.nmiEnable := rfl
@[simp] theorem State.acceptMask_regs_grayscale (s : State) (d : Byte) : (s.acceptMask d).regs.grayscale = maskGrayscale d := rfl
@[simp] theorem State.acceptMask_regs_showBg (s : State) (d : Byte) : (s.acceptMask d).regs.showBg = maskShowBg d := rfl
@[simp] theorem State.acceptMask_regs_showSprites (s : State) (d : Byte) : (s.acceptMask d).regs.showSprites = maskShowSprites d := rfl
@[simp] theorem State.acceptMask_regs_vblank (s : State) (d : Byte) : (s.acceptMask d).regs.vblank = s.regs.vblank := rfl
@[simp] theorem State.acceptMask_regs_sprite0Hit (s : State) (d : Byte) : (s.acceptMask d).regs.sprite0Hit = s.regs.sprite0Hit := rfl
@[simp] theorem State.acceptMask_regs_spriteOverflow (s : State) (d : Byte) : (s.acceptMask d).regs.spriteOverflow = s.regs.spriteOverflow := rfl
@[simp] theorem State.acceptMask_regs_oamAddr (s : State) (d : Byte) : (s.acceptMask d).regs.oamAddr = s.regs.oamAddr := rfl
@[simp] theorem State.acceptMask_regs_scrollX (s : State) (d : Byte) : (s.acceptMask d).regs.scrollX = s.regs.scrollX := rfl
@[simp] theorem State.acceptMask_regs_scrollY (s : State) (d : Byte) : (s.acceptMask d).regs.scrollY = s.regs.scrollY := rfl
@[simp] theorem State.acceptMask_regs_vaddr (s : State) (d : Byte) : (s.acceptMask d).regs.vaddr = s.regs.vaddr := rfl
@[simp] theorem State.acceptMask_regs_toggle (s : State) (d : Byte) : (s.acceptMask d).regs.toggle = s.regs.toggle := rfl
@[simp] theorem State.acceptMask_regs_latch (s : State) (d : Byte) : (s.acceptMask d).regs.latch = s.regs.latch := rfl

/-! ### acceptScroll (R142) -/

@[simp] theorem State.acceptScroll_time (s : State) (d : Byte) : (s.acceptScroll d).time = s.time := by unfold State.acceptScroll; split <;> rfl
@[simp] theorem State.acceptScroll_isProtected (s : State) (d : Byte) : (s.acceptScroll d).isProtected = s.isProtected := by unfold State.acceptScroll; split <;> rfl
@[simp] theorem State.acceptScroll_frameCeiling (s : State) (d : Byte) : (s.acceptScroll d).frameCeiling = s.frameCeiling := by unfold State.acceptScroll; split <;> rfl
@[simp] theorem State.acceptScroll_nmiLog (s : State) (d : Byte) : (s.acceptScroll d).nmiLog = s.nmiLog := by unfold State.acceptScroll; split <;> rfl
@[simp] theorem State.acceptScroll_vram (s : State) (d : Byte) : (s.acceptScroll d).vram = s.vram := by unfold State.acceptScroll; split <;> rfl
@[simp] theorem State.acceptScroll_oam (s : State) (d : Byte) : (s.acceptScroll d).oam = s.oam := by unfold State.acceptScroll; split <;> rfl
@[simp] theorem State.acceptScroll_fb (s : State) (d : Byte) : (s.acceptScroll d).fb = s.fb := by unfold State.acceptScroll; split <;> rfl
@[simp] theorem State.acceptScroll_powerOns (s : State) (d : Byte) : (s.acceptScroll d).powerOns = s.powerOns := by unfold State.acceptScroll; split <;> rfl
@[simp] theorem State.acceptScroll_draws (s : State) (d : Byte) : (s.acceptScroll d).draws = s.draws := by unfold State.acceptScroll; split <;> rfl
@[simp] theorem State.acceptScroll_returned (s : State) (d : Byte) : (s.acceptScroll d).returned = s.returned := by unfold State.acceptScroll; split <;> rfl
@[simp] theorem State.acceptScroll_pending (s : State) (d : Byte) : (s.acceptScroll d).pending = s.pending := by unfold State.acceptScroll; split <;> rfl
@[simp] theorem State.acceptScroll_regs_ntBase (s : State) (d : Byte) : (s.acceptScroll d).regs.ntBase = s.regs.ntBase := by unfold State.acceptScroll; split <;> rfl
@[simp] theorem State.acceptScroll_regs_bgPatternBase (s : State) (d : Byte) : (s.acceptScroll d).regs.bgPatternBase = s.regs.bgPatternBase := by unfold State.acceptScroll; split <;> rfl
@[simp] theorem State.acceptScroll_regs_spriteSize (s : State) (d : Byte) : (s.acceptScroll d).regs.spriteSize = s.regs.spriteSize := by unfold State.acceptScroll; split <;> rfl
@[simp] theorem State.acceptScroll_regs_vinc (s : State) (d : Byte) : (s.acceptScroll d).regs.vinc = s.regs.vinc := by unfold State.acceptScroll; split <;> rfl
@[simp] theorem State.acceptScroll_regs_nmiEnable (s : State) (d : Byte) : (s.acceptScroll d).regs.nmiEnable = s.regs.nmiEnable := by unfold State.acceptScroll; split <;> rfl
@[simp] theorem State.acceptScroll_regs_grayscale (s : State) (d : Byte) : (s.acceptScroll d).regs.grayscale = s.regs.grayscale := by unfold State.acceptScroll; split <;> rfl
@[simp] theorem State.acceptScroll_regs_showBg (s : State) (d : Byte) : (s.acceptScroll d).regs.showBg = s.regs.showBg := by unfold State.acceptScroll; split <;> rfl
@[simp] theorem State.acceptScroll_regs_showSprites (s : State) (d : Byte) : (s.acceptScroll d).regs.showSprites = s.regs.showSprites := by unfold State.acceptScroll; split <;> rfl
@[simp] theorem State.acceptScroll_regs_vblank (s : State) (d : Byte) : (s.acceptScroll d).regs.vblank = s.regs.vblank := by unfold State.acceptScroll; split <;> rfl
@[simp] theorem State.acceptScroll_regs_sprite0Hit (s : State) (d : Byte) : (s.acceptScroll d).regs.sprite0Hit = s.regs.sprite0Hit := by unfold State.acceptScroll; split <;> rfl
@[simp] theorem State.acceptScroll_regs_spriteOverflow (s : State) (d : Byte) : (s.acceptScroll d).regs.spriteOverflow = s.regs.spriteOverflow := by unfold State.acceptScroll; split <;> rfl
@[simp] theorem State.acceptScroll_regs_oamAddr (s : State) (d : Byte) : (s.acceptScroll d).regs.oamAddr = s.regs.oamAddr := by unfold State.acceptScroll; split <;> rfl
@[simp] theorem State.acceptScroll_regs_vaddr (s : State) (d : Byte) : (s.acceptScroll d).regs.vaddr = s.regs.vaddr := by unfold State.acceptScroll; split <;> rfl
@[simp] theorem State.acceptScroll_regs_latch (s : State) (d : Byte) : (s.acceptScroll d).regs.latch = s.regs.latch := by unfold State.acceptScroll; split <;> rfl
@[simp] theorem State.acceptScroll_regs_toggle (s : State) (d : Byte) : (s.acceptScroll d).regs.toggle = !s.regs.toggle := by unfold State.acceptScroll; split <;> simp_all
@[simp] theorem State.acceptScroll_regs_scrollX (s : State) (d : Byte) : (s.acceptScroll d).regs.scrollX = if s.regs.toggle then s.regs.scrollX else d := by unfold State.acceptScroll; split <;> simp_all
@[simp] theorem State.acceptScroll_regs_scrollY (s : State) (d : Byte) : (s.acceptScroll d).regs.scrollY = if s.regs.toggle then d else s.regs.scrollY := by unfold State.acceptScroll; split <;> simp_all

/-! ### acceptAddr (R144) -/

@[simp] theorem State.acceptAddr_time (s : State) (d : Byte) : (s.acceptAddr d).time = s.time := by unfold State.acceptAddr; split <;> rfl
@[simp] theorem State.acceptAddr_isProtected (s : State) (d : Byte) : (s.acceptAddr d).isProtected = s.isProtected := by unfold State.acceptAddr; split <;> rfl
@[simp] theorem State.acceptAddr_frameCeiling (s : State) (d : Byte) : (s.acceptAddr d).frameCeiling = s.frameCeiling := by unfold State.acceptAddr; split <;> rfl
@[simp] theorem State.acceptAddr_nmiLog (s : State) (d : Byte) : (s.acceptAddr d).nmiLog = s.nmiLog := by unfold State.acceptAddr; split <;> rfl
@[simp] theorem State.acceptAddr_vram (s : State) (d : Byte) : (s.acceptAddr d).vram = s.vram := by unfold State.acceptAddr; split <;> rfl
@[simp] theorem State.acceptAddr_oam (s : State) (d : Byte) : (s.acceptAddr d).oam = s.oam := by unfold State.acceptAddr; split <;> rfl
@[simp] theorem State.acceptAddr_fb (s : State) (d : Byte) : (s.acceptAddr d).fb = s.fb := by unfold State.acceptAddr; split <;> rfl
@[simp] theorem State.acceptAddr_powerOns (s : State) (d : Byte) : (s.acceptAddr d).powerOns = s.powerOns := by unfold State.acceptAddr; split <;> rfl
@[simp] theorem State.acceptAddr_draws (s : State) (d : Byte) : (s.acceptAddr d).draws = s.draws := by unfold State.acceptAddr; split <;> rfl
@[simp] theorem State.acceptAddr_returned (s : State) (d : Byte) : (s.acceptAddr d).returned = s.returned := by unfold State.acceptAddr; split <;> rfl
@[simp] theorem State.acceptAddr_pending (s : State) (d : Byte) : (s.acceptAddr d).pending = s.pending := by unfold State.acceptAddr; split <;> rfl
@[simp] theorem State.acceptAddr_regs_ntBase (s : State) (d : Byte) : (s.acceptAddr d).regs.ntBase = s.regs.ntBase := by unfold State.acceptAddr; split <;> rfl
@[simp] theorem State.acceptAddr_regs_bgPatternBase (s : State) (d : Byte) : (s.acceptAddr d).regs.bgPatternBase = s.regs.bgPatternBase := by unfold State.acceptAddr; split <;> rfl
@[simp] theorem State.acceptAddr_regs_spriteSize (s : State) (d : Byte) : (s.acceptAddr d).regs.spriteSize = s.regs.spriteSize := by unfold State.acceptAddr; split <;> rfl
@[simp] theorem State.acceptAddr_regs_vinc (s : State) (d : Byte) : (s.acceptAddr d).regs.vinc = s.regs.vinc := by unfold State.acceptAddr; split <;> rfl
@[simp] theorem State.acceptAddr_regs_nmiEnable (s : State) (d : Byte) : (s.acceptAddr d).regs.nmiEnable = s.regs.nmiEnable := by unfold State.acceptAddr; split <;> rfl
@[simp] theorem State.acceptAddr_regs_grayscale (s : State) (d : Byte) : (s.acceptAddr d).regs.grayscale = s.regs.grayscale := by unfold State.acceptAddr; split <;> rfl
@[simp] theorem State.acceptAddr_regs_showBg (s : State) (d : Byte) : (s.acceptAddr d).regs.showBg = s.regs.showBg := by unfold State.acceptAddr; split <;> rfl
@[simp] theorem State.acceptAddr_regs_showSprites (s : State) (d : Byte) : (s.acceptAddr d).regs.showSprites = s.regs.showSprites := by unfold State.acceptAddr; split <;> rfl
@[simp] theorem State.acceptAddr_regs_vblank (s : State) (d : Byte) : (s.acceptAddr d).regs.vblank = s.regs.vblank := by unfold State.acceptAddr; split <;> rfl
@[simp] theorem State.acceptAddr_regs_sprite0Hit (s : State) (d : Byte) : (s.acceptAddr d).regs.sprite0Hit = s.regs.sprite0Hit := by unfold State.acceptAddr; split <;> rfl
@[simp] theorem State.acceptAddr_regs_spriteOverflow (s : State) (d : Byte) : (s.acceptAddr d).regs.spriteOverflow = s.regs.spriteOverflow := by unfold State.acceptAddr; split <;> rfl
@[simp] theorem State.acceptAddr_regs_oamAddr (s : State) (d : Byte) : (s.acceptAddr d).regs.oamAddr = s.regs.oamAddr := by unfold State.acceptAddr; split <;> rfl
@[simp] theorem State.acceptAddr_regs_scrollX (s : State) (d : Byte) : (s.acceptAddr d).regs.scrollX = s.regs.scrollX := by unfold State.acceptAddr; split <;> rfl
@[simp] theorem State.acceptAddr_regs_scrollY (s : State) (d : Byte) : (s.acceptAddr d).regs.scrollY = s.regs.scrollY := by unfold State.acceptAddr; split <;> rfl
@[simp] theorem State.acceptAddr_regs_latch (s : State) (d : Byte) : (s.acceptAddr d).regs.latch = s.regs.latch := by unfold State.acceptAddr; split <;> rfl
@[simp] theorem State.acceptAddr_regs_toggle (s : State) (d : Byte) : (s.acceptAddr d).regs.toggle = !s.regs.toggle := by unfold State.acceptAddr; split <;> simp_all
@[simp] theorem State.acceptAddr_regs_vaddr (s : State) (d : Byte) : (s.acceptAddr d).regs.vaddr = if s.regs.toggle then withLowByte s.regs.vaddr d else withHighByte s.regs.vaddr d := by unfold State.acceptAddr; split <;> simp_all

/-! ### advanceVaddr, advanceOamAddr (R146, R140) -/

@[simp] theorem State.advanceVaddr_time (s : State) : (s.advanceVaddr).time = s.time := rfl
@[simp] theorem State.advanceVaddr_isProtected (s : State) : (s.advanceVaddr).isProtected = s.isProtected := rfl
@[simp] theorem State.advanceVaddr_frameCeiling (s : State) : (s.advanceVaddr).frameCeiling = s.frameCeiling := rfl
@[simp] theorem State.advanceVaddr_nmiLog (s : State) : (s.advanceVaddr).nmiLog = s.nmiLog := rfl
@[simp] theorem State.advanceVaddr_vram (s : State) : (s.advanceVaddr).vram = s.vram := rfl
@[simp] theorem State.advanceVaddr_oam (s : State) : (s.advanceVaddr).oam = s.oam := rfl
@[simp] theorem State.advanceVaddr_fb (s : State) : (s.advanceVaddr).fb = s.fb := rfl
@[simp] theorem State.advanceVaddr_powerOns (s : State) : (s.advanceVaddr).powerOns = s.powerOns := rfl
@[simp] theorem State.advanceVaddr_draws (s : State) : (s.advanceVaddr).draws = s.draws := rfl
@[simp] theorem State.advanceVaddr_returned (s : State) : (s.advanceVaddr).returned = s.returned := rfl
@[simp] theorem State.advanceVaddr_pending (s : State) : (s.advanceVaddr).pending = s.pending := rfl
@[simp] theorem State.advanceVaddr_regs_ntBase (s : State) : (s.advanceVaddr).regs.ntBase = s.regs.ntBase := rfl
@[simp] theorem State.advanceVaddr_regs_bgPatternBase (s : State) : (s.advanceVaddr).regs.bgPatternBase = s.regs.bgPatternBase := rfl
@[simp] theorem State.advanceVaddr_regs_spriteSize (s : State) : (s.advanceVaddr).regs.spriteSize = s.regs.spriteSize := rfl
@[simp] theorem State.advanceVaddr_regs_vinc (s : State) : (s.advanceVaddr).regs.vinc = s.regs.vinc := rfl
@[simp] theorem State.advanceVaddr_regs_nmiEnable (s : State) : (s.advanceVaddr).regs.nmiEnable = s.regs.nmiEnable := rfl
@[simp] theorem State.advanceVaddr_regs_grayscale (s : State) : (s.advanceVaddr).regs.grayscale = s.regs.grayscale := rfl
@[simp] theorem State.advanceVaddr_regs_showBg (s : State) : (s.advanceVaddr).regs.showBg = s.regs.showBg := rfl
@[simp] theorem State.advanceVaddr_regs_showSprites (s : State) : (s.advanceVaddr).regs.showSprites = s.regs.showSprites := rfl
@[simp] theorem State.advanceVaddr_regs_vblank (s : State) : (s.advanceVaddr).regs.vblank = s.regs.vblank := rfl
@[simp] theorem State.advanceVaddr_regs_sprite0Hit (s : State) : (s.advanceVaddr).regs.sprite0Hit = s.regs.sprite0Hit := rfl
@[simp] theorem State.advanceVaddr_regs_spriteOverflow (s : State) : (s.advanceVaddr).regs.spriteOverflow = s.regs.spriteOverflow := rfl
@[simp] theorem State.advanceVaddr_regs_oamAddr (s : State) : (s.advanceVaddr).regs.oamAddr = s.regs.oamAddr := rfl
@[simp] theorem State.advanceVaddr_regs_scrollX (s : State) : (s.advanceVaddr).regs.scrollX = s.regs.scrollX := rfl
@[simp] theorem State.advanceVaddr_regs_scrollY (s : State) : (s.advanceVaddr).regs.scrollY = s.regs.scrollY := rfl
@[simp] theorem State.advanceVaddr_regs_vaddr (s : State) : (s.advanceVaddr).regs.vaddr = s.regs.vaddr + s.regs.vinc := rfl
@[simp] theorem State.advanceVaddr_regs_toggle (s : State) : (s.advanceVaddr).regs.toggle = s.regs.toggle := rfl
@[simp] theorem State.advanceVaddr_regs_latch (s : State) : (s.advanceVaddr).regs.latch = s.regs.latch := rfl
@[simp] theorem State.advanceOamAddr_time (s : State) : (s.advanceOamAddr).time = s.time := rfl
@[simp] theorem State.advanceOamAddr_isProtected (s : State) : (s.advanceOamAddr).isProtected = s.isProtected := rfl
@[simp] theorem State.advanceOamAddr_frameCeiling (s : State) : (s.advanceOamAddr).frameCeiling = s.frameCeiling := rfl
@[simp] theorem State.advanceOamAddr_nmiLog (s : State) : (s.advanceOamAddr).nmiLog = s.nmiLog := rfl
@[simp] theorem State.advanceOamAddr_vram (s : State) : (s.advanceOamAddr).vram = s.vram := rfl
@[simp] theorem State.advanceOamAddr_oam (s : State) : (s.advanceOamAddr).oam = s.oam := rfl
@[simp] theorem State.advanceOamAddr_fb (s : State) : (s.advanceOamAddr).fb = s.fb := rfl
@[simp] theorem State.advanceOamAddr_powerOns (s : State) : (s.advanceOamAddr).powerOns = s.powerOns := rfl
@[simp] theorem State.advanceOamAddr_draws (s : State) : (s.advanceOamAddr).draws = s.draws := rfl
@[simp] theorem State.advanceOamAddr_returned (s : State) : (s.advanceOamAddr).returned = s.returned := rfl
@[simp] theorem State.advanceOamAddr_pending (s : State) : (s.advanceOamAddr).pending = s.pending := rfl
@[simp] theorem State.advanceOamAddr_regs_ntBase (s : State) : (s.advanceOamAddr).regs.ntBase = s.regs.ntBase := rfl
@[simp] theorem State.advanceOamAddr_regs_bgPatternBase (s : State) : (s.advanceOamAddr).regs.bgPatternBase = s.regs.bgPatternBase := rfl
@[simp] theorem State.advanceOamAddr_regs_spriteSize (s : State) : (s.advanceOamAddr).regs.spriteSize = s.regs.spriteSize := rfl
@[simp] theorem State.advanceOamAddr_regs_vinc (s : State) : (s.advanceOamAddr).regs.vinc = s.regs.vinc := rfl
@[simp] theorem State.advanceOamAddr_regs_nmiEnable (s : State) : (s.advanceOamAddr).regs.nmiEnable = s.regs.nmiEnable := rfl
@[simp] theorem State.advanceOamAddr_regs_grayscale (s : State) : (s.advanceOamAddr).regs.grayscale = s.regs.grayscale := rfl
@[simp] theorem State.advanceOamAddr_regs_showBg (s : State) : (s.advanceOamAddr).regs.showBg = s.regs.showBg := rfl
@[simp] theorem State.advanceOamAddr_regs_showSprites (s : State) : (s.advanceOamAddr).regs.showSprites = s.regs.showSprites := rfl
@[simp] theorem State.advanceOamAddr_regs_vblank (s : State) : (s.advanceOamAddr).regs.vblank = s.regs.vblank := rfl
@[simp] theorem State.advanceOamAddr_regs_sprite0Hit (s : State) : (s.advanceOamAddr).regs.sprite0Hit = s.regs.sprite0Hit := rfl
@[simp] theorem State.advanceOamAddr_regs_spriteOverflow (s : State) : (s.advanceOamAddr).regs.spriteOverflow = s.regs.spriteOverflow := rfl
@[simp] theorem State.advanceOamAddr_regs_oamAddr (s : State) : (s.advanceOamAddr).regs.oamAddr = s.regs.oamAddr + 1 := rfl
@[simp] theorem State.advanceOamAddr_regs_scrollX (s : State) : (s.advanceOamAddr).regs.scrollX = s.regs.scrollX := rfl
@[simp] theorem State.advanceOamAddr_regs_scrollY (s : State) : (s.advanceOamAddr).regs.scrollY = s.regs.scrollY := rfl
@[simp] theorem State.advanceOamAddr_regs_vaddr (s : State) : (s.advanceOamAddr).regs.vaddr = s.regs.vaddr := rfl
@[simp] theorem State.advanceOamAddr_regs_toggle (s : State) : (s.advanceOamAddr).regs.toggle = s.regs.toggle := rfl
@[simp] theorem State.advanceOamAddr_regs_latch (s : State) : (s.advanceOamAddr).regs.latch = s.regs.latch := rfl

/-! ### clearRegisters (R43) -/

@[simp] theorem State.clearRegisters_regs (P : Params) (s : State) : (s.clearRegisters P).regs = Regs.reset := rfl
@[simp] theorem State.clearRegisters_time (P : Params) (s : State) : (s.clearRegisters P).time = Timing.reset P.startLine := rfl
@[simp] theorem State.clearRegisters_isProtected (P : Params) (s : State) : (s.clearRegisters P).isProtected = s.isProtected := rfl
@[simp] theorem State.clearRegisters_frameCeiling (P : Params) (s : State) : (s.clearRegisters P).frameCeiling = s.frameCeiling := rfl
@[simp] theorem State.clearRegisters_nmiLog (P : Params) (s : State) : (s.clearRegisters P).nmiLog = s.nmiLog := rfl
@[simp] theorem State.clearRegisters_vram (P : Params) (s : State) : (s.clearRegisters P).vram = s.vram := rfl
@[simp] theorem State.clearRegisters_oam (P : Params) (s : State) : (s.clearRegisters P).oam = s.oam := rfl
@[simp] theorem State.clearRegisters_fb (P : Params) (s : State) : (s.clearRegisters P).fb = s.fb := rfl
@[simp] theorem State.clearRegisters_powerOns (P : Params) (s : State) : (s.clearRegisters P).powerOns = s.powerOns := rfl
@[simp] theorem State.clearRegisters_draws (P : Params) (s : State) : (s.clearRegisters P).draws = s.draws := rfl
@[simp] theorem State.clearRegisters_returned (P : Params) (s : State) : (s.clearRegisters P).returned = s.returned := rfl
@[simp] theorem State.clearRegisters_pending (P : Params) (s : State) : (s.clearRegisters P).pending = s.pending := rfl

/-! ### emitNmi (R301) -/

@[simp] theorem State.emitNmi_regs (s : State) (c : Nat) : (s.emitNmi c).regs = s.regs := rfl
@[simp] theorem State.emitNmi_time (s : State) (c : Nat) : (s.emitNmi c).time = s.time := rfl
@[simp] theorem State.emitNmi_isProtected (s : State) (c : Nat) : (s.emitNmi c).isProtected = s.isProtected := rfl
@[simp] theorem State.emitNmi_frameCeiling (s : State) (c : Nat) : (s.emitNmi c).frameCeiling = s.frameCeiling := rfl
@[simp] theorem State.emitNmi_nmiLog (s : State) (c : Nat) : (s.emitNmi c).nmiLog = s.nmiLog ++ [c] := rfl
@[simp] theorem State.emitNmi_vram (s : State) (c : Nat) : (s.emitNmi c).vram = s.vram := rfl
@[simp] theorem State.emitNmi_oam (s : State) (c : Nat) : (s.emitNmi c).oam = s.oam := rfl
@[simp] theorem State.emitNmi_fb (s : State) (c : Nat) : (s.emitNmi c).fb = s.fb := rfl
@[simp] theorem State.emitNmi_powerOns (s : State) (c : Nat) : (s.emitNmi c).powerOns = s.powerOns := rfl
@[simp] theorem State.emitNmi_draws (s : State) (c : Nat) : (s.emitNmi c).draws = s.draws := rfl
@[simp] theorem State.emitNmi_returned (s : State) (c : Nat) : (s.emitNmi c).returned = s.returned := rfl
@[simp] theorem State.emitNmi_pending (s : State) (c : Nat) : (s.emitNmi c).pending = s.pending := rfl

/-! ### The ready gate (R131) -/

theorem State.whenReady_of_ready (s : State) (f : State → State) (h : s.time.ready = true) : s.whenReady f = f s := by
  simp [State.whenReady, h]

theorem State.whenReady_of_not_ready (s : State) (f : State → State) (h : s.time.ready = false) : s.whenReady f = s := by
  simp [State.whenReady, h]

/-! ### Reads see only their own memory -/

theorem State.vramRead_congr {s t : State} (hv : s.vram = t.vram) (hp : s.powerOns = t.powerOns) (i : Nat) :
    s.vramRead i = t.vramRead i := by
  simp [State.vramRead, hv, hp]

theorem State.oamRead_congr {s t : State} (ho : s.oam = t.oam) (hp : s.powerOns = t.powerOns) (i : Nat) :
    s.oamRead i = t.oamRead i := by
  simp [State.oamRead, ho, hp]

theorem State.fbPixel_congr {s t : State} (hf : s.fb = t.fb) (hp : s.powerOns = t.powerOns) (x y : Nat) :
    s.fbPixel x y = t.fbPixel x y := by
  simp [State.fbPixel, hf, hp]

end Sys2Proof.Machine
end

