-- ==== Sys2Proof/Laws/Ops.lean ====
section
/-! SUPPORT. What each shared operation can do, said once: when it answers a next state, and which. -/

namespace Sys2Proof.Machine

@[simp] theorem ifPowered_of_ne (s : State) (r : Result) (h : s.powerOns ≠ 0) : ifPowered s r = r := by
  simp [ifPowered, h]

theorem ifPowered_of_zero (s : State) (r : Result) (h : s.powerOns = 0) : ifPowered s r = .refused .beforePowerOn := by
  simp [ifPowered, h]

/-- An operation that answers a next state ran on a powered block. -/
theorem ifPowered_eq_next {s t : State} {r : Result} (h : ifPowered s r = .next t) : s.powerOns ≠ 0 ∧ r = .next t := by
  unfold ifPowered at h
  split at h
  · cases h
  · exact ⟨‹_›, h⟩

theorem ifPowered_ne_fault {s : State} {r : Result} {f : Fault} (hr : r ≠ .fault f) : ifPowered s r ≠ .fault f := by
  unfold ifPowered
  split
  · simp
  · exact hr

/-- A port write answers the state of its effect after the latch record. -/
theorem portWrite_eq_next {d : Byte} {effect : State → State} {s t : State} (h : portWrite d effect s = .next t) :
    s.powerOns ≠ 0 ∧ t = (effect (s.recordLatch d)).answer .nothing := by
  obtain ⟨hp, hn⟩ := ifPowered_eq_next h
  exact ⟨hp, (Host.Outcome.next.inj hn).symm⟩

/-- Recording the latch's own value changes nothing (R133). -/
@[simp] theorem State.recordLatch_latch (s : State) : s.recordLatch s.regs.latch = s := by
  unfold State.recordLatch
  split <;> rfl

/-- A read of a write-only port answers the state with the latch returned, and changes nothing else (R133). -/
theorem latchRead_eq_next {s t : State} (h : latchRead s = .next t) :
    s.powerOns ≠ 0 ∧ t = s.answer (.byte s.regs.latch) := by
  obtain ⟨hp, hn⟩ := ifPowered_eq_next h
  rw [State.recordLatch_latch] at hn
  exact ⟨hp, (Host.Outcome.next.inj hn).symm⟩

/-- A DATA access never faults: `Translate` keeps its 14-bit input in range (R304). -/
@[simp] theorem withDataIndex_eq (P : Params) (s : State) (access : Nat → Result) :
    withDataIndex P s access = access (dataLocation P.paletteMirror s.regs.vaddr).toNat := by
  have h : (dataLocation P.paletteMirror s.regs.vaddr).toNat < vramSize := dataLocation_lt _ _
  simp [withDataIndex, checkedIndex, h]

/-- A byte written to VRAM reads back, and every other byte reads as before. -/
theorem State.vramRead_vramWrite (s : State) (i j : Nat) (v : Byte) :
    (s.vramWrite i v).vramRead j = if j = i then v else s.vramRead j := by
  simp only [State.vramRead, State.vramWrite_vram, State.vramWrite_powerOns, Cells.find_write]
  split <;> simp

/-- A byte written to OAM reads back, and every other byte reads as before. -/
theorem State.oamRead_oamWrite (s : State) (i j : Nat) (v : Byte) :
    (s.oamWrite i v).oamRead j = if j = i then v else s.oamRead j := by
  simp only [State.oamRead, State.oamWrite_oam, State.oamWrite_powerOns, Cells.find_write]
  split <;> simp

/-- What the canonical form of a state's memories says of each. -/
theorem Memory.wf_iff (s : State) :
    Memory.wf s = true ↔ Cells.wf vramSize s.vram = true ∧ Cells.wf oamSize s.oam = true ∧ Cells.wf fbSize s.fb = true := by
  simp [Memory.wf, and_assoc]

theorem Memory.wf_congr {s t : State} (hv : t.vram = s.vram) (ho : t.oam = s.oam) (hf : t.fb = s.fb)
    (h : Memory.wf s = true) : Memory.wf t = true := by
  simpa [Memory.wf, hv, ho, hf] using h

/-- A VRAM write at an index of VRAM keeps the canonical form. -/
theorem Memory.wf_vramWrite (s : State) (i : Nat) (v : Byte) (hi : i < vramSize) (h : Memory.wf s = true) :
    Memory.wf (s.vramWrite i v) = true := by
  rw [Memory.wf_iff] at h ⊢
  exact ⟨Cells.wf_write _ _ _ _ hi h.1, h.2⟩

/-- An OAM write at an OAM address keeps the canonical form. -/
theorem Memory.wf_oamWrite (s : State) (a v : Byte) (h : Memory.wf s = true) :
    Memory.wf (s.oamWrite a.toNat v) = true := by
  rw [Memory.wf_iff] at h ⊢
  exact ⟨h.1, Cells.wf_write _ _ _ _ a.isLt h.2.1, h.2.2⟩

end Sys2Proof.Machine
end

