-- ==== Sys2Proof/Laws/Timing.lean ====
section
/-! SUPPORT. What the parts of a tick can do (43_timing.md), said once per part, and the induction over the ticks of STEP_TO. -/

namespace Sys2Proof.Machine

/-! ### vblankEvent (R254, R255) -/

@[simp] theorem vblankEvent_time (P : Params) (s : State) : (vblankEvent P s).time = s.time := by unfold vblankEvent; dsimp only; (repeat' split) <;> rfl
@[simp] theorem vblankEvent_isProtected (P : Params) (s : State) : (vblankEvent P s).isProtected = s.isProtected := by unfold vblankEvent; dsimp only; (repeat' split) <;> rfl
@[simp] theorem vblankEvent_frameCeiling (P : Params) (s : State) : (vblankEvent P s).frameCeiling = s.frameCeiling := by unfold vblankEvent; dsimp only; (repeat' split) <;> rfl
@[simp] theorem vblankEvent_vram (P : Params) (s : State) : (vblankEvent P s).vram = s.vram := by unfold vblankEvent; dsimp only; (repeat' split) <;> rfl
@[simp] theorem vblankEvent_oam (P : Params) (s : State) : (vblankEvent P s).oam = s.oam := by unfold vblankEvent; dsimp only; (repeat' split) <;> rfl
@[simp] theorem vblankEvent_fb (P : Params) (s : State) : (vblankEvent P s).fb = s.fb := by unfold vblankEvent; dsimp only; (repeat' split) <;> rfl
@[simp] theorem vblankEvent_powerOns (P : Params) (s : State) : (vblankEvent P s).powerOns = s.powerOns := by unfold vblankEvent; dsimp only; (repeat' split) <;> rfl
@[simp] theorem vblankEvent_draws (P : Params) (s : State) : (vblankEvent P s).draws = s.draws := by unfold vblankEvent; dsimp only; (repeat' split) <;> rfl
@[simp] theorem vblankEvent_returned (P : Params) (s : State) : (vblankEvent P s).returned = s.returned := by unfold vblankEvent; dsimp only; (repeat' split) <;> rfl
@[simp] theorem vblankEvent_pending (P : Params) (s : State) : (vblankEvent P s).pending = s.pending := by unfold vblankEvent; dsimp only; (repeat' split) <;> rfl
@[simp] theorem vblankEvent_regs_ntBase (P : Params) (s : State) : (vblankEvent P s).regs.ntBase = s.regs.ntBase := by unfold vblankEvent; dsimp only; (repeat' split) <;> rfl
@[simp] theorem vblankEvent_regs_bgPatternBase (P : Params) (s : State) : (vblankEvent P s).regs.bgPatternBase = s.regs.bgPatternBase := by unfold vblankEvent; dsimp only; (repeat' split) <;> rfl
@[simp] theorem vblankEvent_regs_spriteSize (P : Params) (s : State) : (vblankEvent P s).regs.spriteSize = s.regs.spriteSize := by unfold vblankEvent; dsimp only; (repeat' split) <;> rfl
@[simp] theorem vblankEvent_regs_vinc (P : Params) (s : State) : (vblankEvent P s).regs.vinc = s.regs.vinc := by unfold vblankEvent; dsimp only; (repeat' split) <;> rfl
@[simp] theorem vblankEvent_regs_nmiEnable (P : Params) (s : State) : (vblankEvent P s).regs.nmiEnable = s.regs.nmiEnable := by unfold vblankEvent; dsimp only; (repeat' split) <;> rfl
@[simp] theorem vblankEvent_regs_grayscale (P : Params) (s : State) : (vblankEvent P s).regs.grayscale = s.regs.grayscale := by unfold vblankEvent; dsimp only; (repeat' split) <;> rfl
@[simp] theorem vblankEvent_regs_showBg (P : Params) (s : State) : (vblankEvent P s).regs.showBg = s.regs.showBg := by unfold vblankEvent; dsimp only; (repeat' split) <;> rfl
@[simp] theorem vblankEvent_regs_showSprites (P : Params) (s : State) : (vblankEvent P s).regs.showSprites = s.regs.showSprites := by unfold vblankEvent; dsimp only; (repeat' split) <;> rfl
@[simp] theorem vblankEvent_regs_sprite0Hit (P : Params) (s : State) : (vblankEvent P s).regs.sprite0Hit = s.regs.sprite0Hit := by unfold vblankEvent; dsimp only; (repeat' split) <;> rfl
@[simp] theorem vblankEvent_regs_spriteOverflow (P : Params) (s : State) : (vblankEvent P s).regs.spriteOverflow = s.regs.spriteOverflow := by unfold vblankEvent; dsimp only; (repeat' split) <;> rfl
@[simp] theorem vblankEvent_regs_oamAddr (P : Params) (s : State) : (vblankEvent P s).regs.oamAddr = s.regs.oamAddr := by unfold vblankEvent; dsimp only; (repeat' split) <;> rfl
@[simp] theorem vblankEvent_regs_scrollX (P : Params) (s : State) : (vblankEvent P s).regs.scrollX = s.regs.scrollX := by unfold vblankEvent; dsimp only; (repeat' split) <;> rfl
@[simp] theorem vblankEvent_regs_scrollY (P : Params) (s : State) : (vblankEvent P s).regs.scrollY = s.regs.scrollY := by unfold vblankEvent; dsimp only; (repeat' split) <;> rfl
@[simp] theorem vblankEvent_regs_vaddr (P : Params) (s : State) : (vblankEvent P s).regs.vaddr = s.regs.vaddr := by unfold vblankEvent; dsimp only; (repeat' split) <;> rfl
@[simp] theorem vblankEvent_regs_toggle (P : Params) (s : State) : (vblankEvent P s).regs.toggle = s.regs.toggle := by unfold vblankEvent; dsimp only; (repeat' split) <;> rfl
@[simp] theorem vblankEvent_regs_latch (P : Params) (s : State) : (vblankEvent P s).regs.latch = s.regs.latch := by unfold vblankEvent; dsimp only; (repeat' split) <;> rfl

/-! ### preRenderEvent (R256) -/

@[simp] theorem preRenderEvent_time (P : Params) (s : State) : (preRenderEvent P s).time = s.time := by unfold preRenderEvent; split <;> rfl
@[simp] theorem preRenderEvent_isProtected (P : Params) (s : State) : (preRenderEvent P s).isProtected = s.isProtected := by unfold preRenderEvent; split <;> rfl
@[simp] theorem preRenderEvent_frameCeiling (P : Params) (s : State) : (preRenderEvent P s).frameCeiling = s.frameCeiling := by unfold preRenderEvent; split <;> rfl
@[simp] theorem preRenderEvent_nmiLog (P : Params) (s : State) : (preRenderEvent P s).nmiLog = s.nmiLog := by unfold preRenderEvent; split <;> rfl
@[simp] theorem preRenderEvent_vram (P : Params) (s : State) : (preRenderEvent P s).vram = s.vram := by unfold preRenderEvent; split <;> rfl
@[simp] theorem preRenderEvent_oam (P : Params) (s : State) : (preRenderEvent P s).oam = s.oam := by unfold preRenderEvent; split <;> rfl
@[simp] theorem preRenderEvent_fb (P : Params) (s : State) : (preRenderEvent P s).fb = s.fb := by unfold preRenderEvent; split <;> rfl
@[simp] theorem preRenderEvent_powerOns (P : Params) (s : State) : (preRenderEvent P s).powerOns = s.powerOns := by unfold preRenderEvent; split <;> rfl
@[simp] theorem preRenderEvent_draws (P : Params) (s : State) : (preRenderEvent P s).draws = s.draws := by unfold preRenderEvent; split <;> rfl
@[simp] theorem preRenderEvent_returned (P : Params) (s : State) : (preRenderEvent P s).returned = s.returned := by unfold preRenderEvent; split <;> rfl
@[simp] theorem preRenderEvent_pending (P : Params) (s : State) : (preRenderEvent P s).pending = s.pending := by unfold preRenderEvent; split <;> rfl
@[simp] theorem preRenderEvent_regs_ntBase (P : Params) (s : State) : (preRenderEvent P s).regs.ntBase = s.regs.ntBase := by unfold preRenderEvent; split <;> rfl
@[simp] theorem preRenderEvent_regs_bgPatternBase (P : Params) (s : State) : (preRenderEvent P s).regs.bgPatternBase = s.regs.bgPatternBase := by unfold preRenderEvent; split <;> rfl
@[simp] theorem preRenderEvent_regs_spriteSize (P : Params) (s : State) : (preRenderEvent P s).regs.spriteSize = s.regs.spriteSize := by unfold preRenderEvent; split <;> rfl
@[simp] theorem preRenderEvent_regs_vinc (P : Params) (s : State) : (preRenderEvent P s).regs.vinc = s.regs.vinc := by unfold preRenderEvent; split <;> rfl
@[simp] theorem preRenderEvent_regs_nmiEnable (P : Params) (s : State) : (preRenderEvent P s).regs.nmiEnable = s.regs.nmiEnable := by unfold preRenderEvent; split <;> rfl
@[simp] theorem preRenderEvent_regs_grayscale (P : Params) (s : State) : (preRenderEvent P s).regs.grayscale = s.regs.grayscale := by unfold preRenderEvent; split <;> rfl
@[simp] theorem preRenderEvent_regs_showBg (P : Params) (s : State) : (preRenderEvent P s).regs.showBg = s.regs.showBg := by unfold preRenderEvent; split <;> rfl
@[simp] theorem preRenderEvent_regs_showSprites (P : Params) (s : State) : (preRenderEvent P s).regs.showSprites = s.regs.showSprites := by unfold preRenderEvent; split <;> rfl
@[simp] theorem preRenderEvent_regs_oamAddr (P : Params) (s : State) : (preRenderEvent P s).regs.oamAddr = s.regs.oamAddr := by unfold preRenderEvent; split <;> rfl
@[simp] theorem preRenderEvent_regs_scrollX (P : Params) (s : State) : (preRenderEvent P s).regs.scrollX = s.regs.scrollX := by unfold preRenderEvent; split <;> rfl
@[simp] theorem preRenderEvent_regs_scrollY (P : Params) (s : State) : (preRenderEvent P s).regs.scrollY = s.regs.scrollY := by unfold preRenderEvent; split <;> rfl
@[simp] theorem preRenderEvent_regs_vaddr (P : Params) (s : State) : (preRenderEvent P s).regs.vaddr = s.regs.vaddr := by unfold preRenderEvent; split <;> rfl
@[simp] theorem preRenderEvent_regs_toggle (P : Params) (s : State) : (preRenderEvent P s).regs.toggle = s.regs.toggle := by unfold preRenderEvent; split <;> rfl
@[simp] theorem preRenderEvent_regs_latch (P : Params) (s : State) : (preRenderEvent P s).regs.latch = s.regs.latch := by unfold preRenderEvent; split <;> rfl

/-! ### renderEvent (R259, R260, R262, R263) -/

@[simp] theorem renderEvent_time (s : State) : (renderEvent s).time = s.time := by unfold renderEvent; split <;> rfl
@[simp] theorem renderEvent_isProtected (s : State) : (renderEvent s).isProtected = s.isProtected := by unfold renderEvent; split <;> rfl
@[simp] theorem renderEvent_frameCeiling (s : State) : (renderEvent s).frameCeiling = s.frameCeiling := by unfold renderEvent; split <;> rfl
@[simp] theorem renderEvent_nmiLog (s : State) : (renderEvent s).nmiLog = s.nmiLog := by unfold renderEvent; split <;> rfl
@[simp] theorem renderEvent_vram (s : State) : (renderEvent s).vram = s.vram := by unfold renderEvent; split <;> rfl
@[simp] theorem renderEvent_oam (s : State) : (renderEvent s).oam = s.oam := by unfold renderEvent; split <;> rfl
@[simp] theorem renderEvent_powerOns (s : State) : (renderEvent s).powerOns = s.powerOns := by unfold renderEvent; split <;> rfl
@[simp] theorem renderEvent_returned (s : State) : (renderEvent s).returned = s.returned := by unfold renderEvent; split <;> rfl
@[simp] theorem renderEvent_pending (s : State) : (renderEvent s).pending = s.pending := by unfold renderEvent; split <;> rfl
@[simp] theorem renderEvent_regs_ntBase (s : State) : (renderEvent s).regs.ntBase = s.regs.ntBase := by unfold renderEvent; split <;> rfl
@[simp] theorem renderEvent_regs_bgPatternBase (s : State) : (renderEvent s).regs.bgPatternBase = s.regs.bgPatternBase := by unfold renderEvent; split <;> rfl
@[simp] theorem renderEvent_regs_spriteSize (s : State) : (renderEvent s).regs.spriteSize = s.regs.spriteSize := by unfold renderEvent; split <;> rfl
@[simp] theorem renderEvent_regs_vinc (s : State) : (renderEvent s).regs.vinc = s.regs.vinc := by unfold renderEvent; split <;> rfl
@[simp] theorem renderEvent_regs_nmiEnable (s : State) : (renderEvent s).regs.nmiEnable = s.regs.nmiEnable := by unfold renderEvent; split <;> rfl
@[simp] theorem renderEvent_regs_grayscale (s : State) : (renderEvent s).regs.grayscale = s.regs.grayscale := by unfold renderEvent; split <;> rfl
@[simp] theorem renderEvent_regs_showBg (s : State) : (renderEvent s).regs.showBg = s.regs.showBg := by unfold renderEvent; split <;> rfl
@[simp] theorem renderEvent_regs_showSprites (s : State) : (renderEvent s).regs.showSprites = s.regs.showSprites := by unfold renderEvent; split <;> rfl
@[simp] theorem renderEvent_regs_vblank (s : State) : (renderEvent s).regs.vblank = s.regs.vblank := by unfold renderEvent; split <;> rfl
@[simp] theorem renderEvent_regs_oamAddr (s : State) : (renderEvent s).regs.oamAddr = s.regs.oamAddr := by unfold renderEvent; split <;> rfl
@[simp] theorem renderEvent_regs_scrollX (s : State) : (renderEvent s).regs.scrollX = s.regs.scrollX := by unfold renderEvent; split <;> rfl
@[simp] theorem renderEvent_regs_scrollY (s : State) : (renderEvent s).regs.scrollY = s.regs.scrollY := by unfold renderEvent; split <;> rfl
@[simp] theorem renderEvent_regs_vaddr (s : State) : (renderEvent s).regs.vaddr = s.regs.vaddr := by unfold renderEvent; split <;> rfl
@[simp] theorem renderEvent_regs_toggle (s : State) : (renderEvent s).regs.toggle = s.regs.toggle := by unfold renderEvent; split <;> rfl
@[simp] theorem renderEvent_regs_latch (s : State) : (renderEvent s).regs.latch = s.regs.latch := by unfold renderEvent; split <;> rfl

/-! ### tick (R252) -/

@[simp] theorem tick_time (P : Params) (s : State) : (tick P s).time = nextTiming P s.time := by simp [tick]
@[simp] theorem tick_isProtected (P : Params) (s : State) : (tick P s).isProtected = s.isProtected := by simp [tick]
@[simp] theorem tick_frameCeiling (P : Params) (s : State) : (tick P s).frameCeiling = s.frameCeiling := by simp [tick]
@[simp] theorem tick_vram (P : Params) (s : State) : (tick P s).vram = s.vram := by simp [tick]
@[simp] theorem tick_oam (P : Params) (s : State) : (tick P s).oam = s.oam := by simp [tick]
@[simp] theorem tick_powerOns (P : Params) (s : State) : (tick P s).powerOns = s.powerOns := by simp [tick]
@[simp] theorem tick_returned (P : Params) (s : State) : (tick P s).returned = s.returned := by simp [tick]
@[simp] theorem tick_pending (P : Params) (s : State) : (tick P s).pending = s.pending := by simp [tick]
@[simp] theorem tick_regs_ntBase (P : Params) (s : State) : (tick P s).regs.ntBase = s.regs.ntBase := by simp [tick]
@[simp] theorem tick_regs_bgPatternBase (P : Params) (s : State) : (tick P s).regs.bgPatternBase = s.regs.bgPatternBase := by simp [tick]
@[simp] theorem tick_regs_spriteSize (P : Params) (s : State) : (tick P s).regs.spriteSize = s.regs.spriteSize := by simp [tick]
@[simp] theorem tick_regs_vinc (P : Params) (s : State) : (tick P s).regs.vinc = s.regs.vinc := by simp [tick]
@[simp] theorem tick_regs_nmiEnable (P : Params) (s : State) : (tick P s).regs.nmiEnable = s.regs.nmiEnable := by simp [tick]
@[simp] theorem tick_regs_grayscale (P : Params) (s : State) : (tick P s).regs.grayscale = s.regs.grayscale := by simp [tick]
@[simp] theorem tick_regs_showBg (P : Params) (s : State) : (tick P s).regs.showBg = s.regs.showBg := by simp [tick]
@[simp] theorem tick_regs_showSprites (P : Params) (s : State) : (tick P s).regs.showSprites = s.regs.showSprites := by simp [tick]
@[simp] theorem tick_regs_oamAddr (P : Params) (s : State) : (tick P s).regs.oamAddr = s.regs.oamAddr := by simp [tick]
@[simp] theorem tick_regs_scrollX (P : Params) (s : State) : (tick P s).regs.scrollX = s.regs.scrollX := by simp [tick]
@[simp] theorem tick_regs_scrollY (P : Params) (s : State) : (tick P s).regs.scrollY = s.regs.scrollY := by simp [tick]
@[simp] theorem tick_regs_vaddr (P : Params) (s : State) : (tick P s).regs.vaddr = s.regs.vaddr := by simp [tick]
@[simp] theorem tick_regs_toggle (P : Params) (s : State) : (tick P s).regs.toggle = s.regs.toggle := by simp [tick]
@[simp] theorem tick_regs_latch (P : Params) (s : State) : (tick P s).regs.latch = s.regs.latch := by simp [tick]

/-! ### What the parts of a tick write -/

/-- The vblank flag after the event of (241, 1) (R254). -/
@[simp] theorem vblankEvent_vblank (P : Params) (s : State) :
    (vblankEvent P s).regs.vblank = (s.regs.vblank || (s.at 241 1 && flagTiming P s)) := by
  unfold vblankEvent
  dsimp only
  split
  · next h => rw [h]; split <;> simp [setVblank]
  · next h => simp [Bool.eq_false_iff.mpr h]

/-- The request of the event of (241, 1) (R255): one entry at most. -/
@[simp] theorem vblankEvent_nmiLog (P : Params) (s : State) :
    (vblankEvent P s).nmiLog =
      if s.at 241 1 && flagTiming P s && s.regs.nmiEnable then s.nmiLog ++ [s.time.master] else s.nmiLog := by
  unfold vblankEvent
  dsimp only
  split
  · next h => rw [h]; cases s.regs.nmiEnable <;> simp [State.emitNmi]
  · next h => simp [Bool.eq_false_iff.mpr h]

/-- The three flags after the pre-render clear (R256). -/
theorem preRenderEvent_flags (P : Params) (s : State) :
    (preRenderEvent P s).regs =
      if s.at 261 1 && flagTiming P s then clearStatusFlags s.regs else s.regs := by
  unfold preRenderEvent
  split <;> rfl

/-- With rendering off, or off the visible lines, the rendering part of a tick does nothing at all (R259). -/
theorem renderEvent_off (s : State) (h : renderOff s.regs = true ∨ 240 ≤ s.time.scanline) : renderEvent s = s := by
  unfold renderEvent
  rcases h with h | h
  · simp [h]
  · simp [Nat.not_lt.mpr h]

/-- What the rendering part can write (R260): the two sprite flags, each set or left, the frame buffer, and the draw counter. -/
theorem renderEvent_cases (s : State) :
    renderEvent s = s ∨
    (s.time.scanline < 240 ∧ renderOff s.regs = false ∧ ∃ hit overflow,
      renderEvent s = { s with
        regs := setSpriteFlags s.regs hit overflow
        fb := Cells.writeAll s.fb (pixelWrites s.draws s.renderView)
        draws := s.draws + 1 }) := by
  unfold renderEvent
  split
  · next h =>
    simp only [Bool.and_eq_true, decide_eq_true_eq, Bool.not_eq_true'] at h
    exact Or.inr ⟨h.1, h.2, _, _, rfl⟩
  · exact Or.inl rfl

/-- Every pixel a tick writes is on the row of its line (R263). -/
theorem mem_pixelWrites {k : Nat} {view : RenderView} {w : Nat × Pixel} (h : w ∈ pixelWrites k view) :
    ∃ x, x < 256 ∧ w.1 = pixelIndex x view.scanline := by
  simp only [pixelWrites, List.mem_filterMap, List.mem_range, Option.map_eq_some_iff] at h
  obtain ⟨x, hx, v, -, rfl⟩ := h
  exact ⟨x, hx, rfl⟩

/-- The rendering part keeps the canonical form of the frame buffer. -/
theorem wf_renderEvent (s : State) (h : Memory.wf s = true) : Memory.wf (renderEvent s) = true := by
  rcases renderEvent_cases s with e | ⟨hs, -, hit, ov, e⟩
  · rw [e]; exact h
  · rw [e]
    simp only [Memory.wf, Bool.and_eq_true] at h ⊢
    refine ⟨h.1, Cells.wf_writeAll _ _ _ (fun w hw => ?_) h.2⟩
    obtain ⟨x, hx, e⟩ := mem_pixelWrites hw
    rw [e]
    exact pixelIndex_lt hx hs

/-- A tick keeps the canonical form of the memories. -/
theorem wf_tick (P : Params) (s : State) (h : Memory.wf s = true) : Memory.wf (tick P s) = true := by
  have h1 : Memory.wf (preRenderEvent P (vblankEvent P s)) = true := Memory.wf_congr (by simp) (by simp) (by simp) h
  exact Memory.wf_congr rfl rfl rfl (wf_renderEvent _ h1)

/-! ### The counters (R253, R257) -/

@[simp] theorem nextTiming_master (P : Params) (t : Timing) : (nextTiming P t).master = t.master + 1 := rfl
@[simp] theorem nextTiming_ready (P : Params) (t : Timing) : (nextTiming P t).ready = decide (P.warmup < t.master + 1) := rfl
@[simp] theorem nextTiming_phase (P : Params) (t : Timing) : (nextTiming P t).phase = phaseAt P (t.master + 1) := rfl

theorem nextTiming_dot_lt (P : Params) (t : Timing) (h : t.dot < 341) : (nextTiming P t).dot < 341 := by
  simp only [nextTiming]
  split <;> omega

theorem nextTiming_scanline_lt (P : Params) (t : Timing) (h : t.scanline < 262) : (nextTiming P t).scanline < 262 := by
  simp only [nextTiming]
  split
  · split <;> omega
  · exact h

/-- The dots counted by the position grow by one, as `master` does (R266). -/
theorem nextTiming_position (P : Params) (t : Timing) :
    (nextTiming P t).frame * 89342 + (nextTiming P t).scanline * 341 + (nextTiming P t).dot
      = t.frame * 89342 + t.scanline * 341 + t.dot + 1 := by
  by_cases hd : t.dot + 1 = 341
  · by_cases hs : t.scanline + 1 = 262
    · simp [nextTiming, hd, hs]; omega
    · simp [nextTiming, hd, hs]; omega
  · simp [nextTiming, hd]; omega

/-! ### The stepping loop (R212) -/

@[simp] theorem ticks_zero (P : Params) (s : State) : ticks P 0 s = s := rfl

theorem ticks_succ (P : Params) (k : Nat) (s : State) :
    ticks P (k + 1) s = if ceilingExceeded s then s else ticks P k (tick P s) := rfl

/-- What every tick keeps, the loop keeps: the one induction over ticks. -/
theorem ticks_induction (P : Params) (Q : State → Prop) (htick : ∀ s, Q s → Q (tick P s)) (k : Nat) (s : State)
    (h : Q s) : Q (ticks P k s) := by
  induction k generalizing s with
  | zero => exact h
  | succ k ih =>
    rw [ticks_succ]
    split
    · exact h
    · exact ih _ (htick s h)

/-- A value every tick leaves alone is the same after the loop. -/
theorem ticks_eq_of_tick_eq {β : Type} (P : Params) (f : State → β) (htick : ∀ s, f (tick P s) = f s) (k : Nat) (s : State) :
    f (ticks P k s) = f s :=
  ticks_induction P (fun t => f t = f s) (fun t ht => (htick t).trans ht) k s rfl

/-- The loop of STEP_TO as R212 writes it: `while master < n`, stop if the frame ceiling is exceeded, else tick. -/
theorem runTo_eq_while (P : Params) (n : Nat) (s : State) :
    runTo P n s = if s.time.master < n then (if ceilingExceeded s then s else runTo P n (tick P s)) else s := by
  unfold runTo
  split
  · next h =>
    obtain ⟨k, hk⟩ : ∃ k, n - s.time.master = k + 1 := ⟨n - s.time.master - 1, by omega⟩
    rw [hk, ticks_succ, tick_time, nextTiming_master]
    have : n - (s.time.master + 1) = k := by omega
    rw [this]
  · next h =>
    have : n - s.time.master = 0 := by omega
    rw [this]
    rfl

/-- Once the ceiling is exceeded the loop does nothing. -/
theorem ticks_of_exceeded (P : Params) (k : Nat) (s : State) (h : ceilingExceeded s = true) : ticks P k s = s := by
  cases k with
  | zero => rfl
  | succ k => rw [ticks_succ, if_pos h]

/-- The loop runs its ticks in pieces. -/
theorem ticks_add (P : Params) (a b : Nat) (s : State) : ticks P (a + b) s = ticks P b (ticks P a s) := by
  induction a generalizing s with
  | zero => simp
  | succ a ih =>
    rw [show a + 1 + b = (a + b) + 1 by omega, ticks_succ, ticks_succ]
    split
    · next h => rw [ticks_of_exceeded _ _ _ h]
    · exact ih _

/-- The loop runs all its ticks, or stops at the ceiling before. -/
theorem ticks_master (P : Params) (k : Nat) (s : State) :
    (ticks P k s).time.master = s.time.master + k ∨
      (ceilingExceeded (ticks P k s) = true ∧ (ticks P k s).time.master ≤ s.time.master + k) := by
  induction k generalizing s with
  | zero => exact Or.inl rfl
  | succ k ih =>
    rw [ticks_succ]
    split
    · next h => exact Or.inr ⟨h, by omega⟩
    · rcases ih (tick P s) with h | ⟨h, h'⟩
      · exact Or.inl (by rw [h]; simp; omega)
      · exact Or.inr ⟨h, by simp at h'; omega⟩

/-- A tick does not read what the last operation returned. -/
theorem tick_answer (P : Params) (s : State) (r : Returned) : tick P (s.answer r) = (tick P s).answer r := by
  have hv : vblankEvent P (s.answer r) = (vblankEvent P s).answer r := by
    have e : ((s.answer r).at 241 1 && flagTiming P (s.answer r)) = (s.at 241 1 && flagTiming P s) := rfl
    unfold vblankEvent
    rw [e]
    dsimp only
    split
    · split <;> simp_all [State.answer, State.emitNmi]
    · rfl
  have hp : ∀ s : State, preRenderEvent P (s.answer r) = (preRenderEvent P s).answer r := by
    intro s
    have e : ((s.answer r).at 261 1 && flagTiming P (s.answer r)) = (s.at 261 1 && flagTiming P s) := rfl
    unfold preRenderEvent
    rw [e]
    split <;> rfl
  have hr : ∀ s : State, renderEvent (s.answer r) = (renderEvent s).answer r := by
    intro s
    have e : (decide ((s.answer r).time.scanline < 240) && !renderOff (s.answer r).regs)
        = (decide (s.time.scanline < 240) && !renderOff s.regs) := rfl
    unfold renderEvent
    rw [e]
    by_cases h : (decide (s.time.scanline < 240) && !renderOff s.regs) = true
    · rw [if_pos h, if_pos h]; rfl
    · rw [if_neg h, if_neg h]
  unfold tick
  dsimp only
  rw [hv, hp, hr]
  rfl

theorem ticks_answer (P : Params) (k : Nat) (s : State) (r : Returned) :
    ticks P k (s.answer r) = (ticks P k s).answer r := by
  induction k generalizing s with
  | zero => rfl
  | succ k ih =>
    rw [ticks_succ, ticks_succ, show ceilingExceeded (s.answer r) = ceilingExceeded s from rfl]
    split
    · rfl
    · rw [tick_answer, ih]

/-! ### What STEP_TO leaves alone (R260, R253) -/

@[simp] theorem runTo_isProtected (P : Params) (n : Nat) (s : State) : (runTo P n s).isProtected = s.isProtected :=
  ticks_eq_of_tick_eq P (fun s => s.isProtected) (fun s => by simp) _ s
@[simp] theorem runTo_frameCeiling (P : Params) (n : Nat) (s : State) : (runTo P n s).frameCeiling = s.frameCeiling :=
  ticks_eq_of_tick_eq P (fun s => s.frameCeiling) (fun s => by simp) _ s
@[simp] theorem runTo_vram (P : Params) (n : Nat) (s : State) : (runTo P n s).vram = s.vram :=
  ticks_eq_of_tick_eq P (fun s => s.vram) (fun s => by simp) _ s
@[simp] theorem runTo_oam (P : Params) (n : Nat) (s : State) : (runTo P n s).oam = s.oam :=
  ticks_eq_of_tick_eq P (fun s => s.oam) (fun s => by simp) _ s
@[simp] theorem runTo_powerOns (P : Params) (n : Nat) (s : State) : (runTo P n s).powerOns = s.powerOns :=
  ticks_eq_of_tick_eq P (fun s => s.powerOns) (fun s => by simp) _ s
@[simp] theorem runTo_returned (P : Params) (n : Nat) (s : State) : (runTo P n s).returned = s.returned :=
  ticks_eq_of_tick_eq P (fun s => s.returned) (fun s => by simp) _ s
@[simp] theorem runTo_pending (P : Params) (n : Nat) (s : State) : (runTo P n s).pending = s.pending :=
  ticks_eq_of_tick_eq P (fun s => s.pending) (fun s => by simp) _ s
@[simp] theorem runTo_regs_ntBase (P : Params) (n : Nat) (s : State) : (runTo P n s).regs.ntBase = s.regs.ntBase :=
  ticks_eq_of_tick_eq P (fun s => s.regs.ntBase) (fun s => by simp) _ s
@[simp] theorem runTo_regs_bgPatternBase (P : Params) (n : Nat) (s : State) : (runTo P n s).regs.bgPatternBase = s.regs.bgPatternBase :=
  ticks_eq_of_tick_eq P (fun s => s.regs.bgPatternBase) (fun s => by simp) _ s
@[simp] theorem runTo_regs_spriteSize (P : Params) (n : Nat) (s : State) : (runTo P n s).regs.spriteSize = s.regs.spriteSize :=
  ticks_eq_of_tick_eq P (fun s => s.regs.spriteSize) (fun s => by simp) _ s
@[simp] theorem runTo_regs_vinc (P : Params) (n : Nat) (s : State) : (runTo P n s).regs.vinc = s.regs.vinc :=
  ticks_eq_of_tick_eq P (fun s => s.regs.vinc) (fun s => by simp) _ s
@[simp] theorem runTo_regs_nmiEnable (P : Params) (n : Nat) (s : State) : (runTo P n s).regs.nmiEnable = s.regs.nmiEnable :=
  ticks_eq_of_tick_eq P (fun s => s.regs.nmiEnable) (fun s => by simp) _ s
@[simp] theorem runTo_regs_grayscale (P : Params) (n : Nat) (s : State) : (runTo P n s).regs.grayscale = s.regs.grayscale :=
  ticks_eq_of_tick_eq P (fun s => s.regs.grayscale) (fun s => by simp) _ s
@[simp] theorem runTo_regs_showBg (P : Params) (n : Nat) (s : State) : (runTo P n s).regs.showBg = s.regs.showBg :=
  ticks_eq_of_tick_eq P (fun s => s.regs.showBg) (fun s => by simp) _ s
@[simp] theorem runTo_regs_showSprites (P : Params) (n : Nat) (s : State) : (runTo P n s).regs.showSprites = s.regs.showSprites :=
  ticks_eq_of_tick_eq P (fun s => s.regs.showSprites) (fun s => by simp) _ s
@[simp] theorem runTo_regs_oamAddr (P : Params) (n : Nat) (s : State) : (runTo P n s).regs.oamAddr = s.regs.oamAddr :=
  ticks_eq_of_tick_eq P (fun s => s.regs.oamAddr) (fun s => by simp) _ s
@[simp] theorem runTo_regs_scrollX (P : Params) (n : Nat) (s : State) : (runTo P n s).regs.scrollX = s.regs.scrollX :=
  ticks_eq_of_tick_eq P (fun s => s.regs.scrollX) (fun s => by simp) _ s
@[simp] theorem runTo_regs_scrollY (P : Params) (n : Nat) (s : State) : (runTo P n s).regs.scrollY = s.regs.scrollY :=
  ticks_eq_of_tick_eq P (fun s => s.regs.scrollY) (fun s => by simp) _ s
@[simp] theorem runTo_regs_vaddr (P : Params) (n : Nat) (s : State) : (runTo P n s).regs.vaddr = s.regs.vaddr :=
  ticks_eq_of_tick_eq P (fun s => s.regs.vaddr) (fun s => by simp) _ s
@[simp] theorem runTo_regs_toggle (P : Params) (n : Nat) (s : State) : (runTo P n s).regs.toggle = s.regs.toggle :=
  ticks_eq_of_tick_eq P (fun s => s.regs.toggle) (fun s => by simp) _ s
@[simp] theorem runTo_regs_latch (P : Params) (n : Nat) (s : State) : (runTo P n s).regs.latch = s.regs.latch :=
  ticks_eq_of_tick_eq P (fun s => s.regs.latch) (fun s => by simp) _ s

/-- STEP_TO keeps the canonical form of the memories. -/
theorem wf_runTo (P : Params) (n : Nat) (s : State) (h : Memory.wf s = true) : Memory.wf (runTo P n s) = true :=
  ticks_induction P (fun s => Memory.wf s = true) (wf_tick P) _ s h

end Sys2Proof.Machine
end

