-- ==== Sys2Proof/Laws/Exec.lean ====
section
/-! SUPPORT. One inversion lemma per meaning: what an operation that answers a next state did, so that no later proof unfolds a
meaning; and the one for sequences of operations. -/

namespace Sys2Proof.Machine

/-! ### The OAM DMA copy, field by field -/

@[simp] theorem dmaCopy_regs (p : Byte) (s : State) : (dmaCopy p s).regs = s.regs := by simp only [dmaCopy]
@[simp] theorem dmaCopy_time (p : Byte) (s : State) : (dmaCopy p s).time = s.time := by simp only [dmaCopy]
@[simp] theorem dmaCopy_isProtected (p : Byte) (s : State) : (dmaCopy p s).isProtected = s.isProtected := by simp only [dmaCopy]
@[simp] theorem dmaCopy_frameCeiling (p : Byte) (s : State) : (dmaCopy p s).frameCeiling = s.frameCeiling := by simp only [dmaCopy]
@[simp] theorem dmaCopy_nmiLog (p : Byte) (s : State) : (dmaCopy p s).nmiLog = s.nmiLog := by simp only [dmaCopy]
@[simp] theorem dmaCopy_vram (p : Byte) (s : State) : (dmaCopy p s).vram = s.vram := by simp only [dmaCopy]
@[simp] theorem dmaCopy_fb (p : Byte) (s : State) : (dmaCopy p s).fb = s.fb := by simp only [dmaCopy]
@[simp] theorem dmaCopy_powerOns (p : Byte) (s : State) : (dmaCopy p s).powerOns = s.powerOns := by simp only [dmaCopy]
@[simp] theorem dmaCopy_returned (p : Byte) (s : State) : (dmaCopy p s).returned = s.returned := by simp only [dmaCopy]
@[simp] theorem dmaCopy_pending (p : Byte) (s : State) : (dmaCopy p s).pending = s.pending := by simp only [dmaCopy]
@[simp] theorem dmaCopy_oam (p : Byte) (s : State) : (dmaCopy p s).oam = Cells.writeAll s.oam (dmaWrites s.draws p) := by simp only [dmaCopy]
@[simp] theorem dmaCopy_draws (p : Byte) (s : State) : (dmaCopy p s).draws = s.draws + 256 := by simp only [dmaCopy]

/-! ### CTRL, MASK, STATUS -/

theorem execWrCtrl_next {d : Byte} {s t : State} (h : execWrCtrl d s = .next t) :
    s.powerOns ≠ 0 ∧
      t = (if s.time.ready then (s.recordLatch d).acceptCtrl d else s.recordLatch d).answer .nothing := by
  obtain ⟨hp, rfl⟩ := portWrite_eq_next h
  exact ⟨hp, by simp [State.whenReady]⟩

theorem execRdCtrl_next {s t : State} (h : execRdCtrl s = .next t) :
    s.powerOns ≠ 0 ∧ t = s.answer (.byte s.regs.latch) := latchRead_eq_next h

theorem execWrMask_next {d : Byte} {s t : State} (h : execWrMask d s = .next t) :
    s.powerOns ≠ 0 ∧
      t = (if s.time.ready then (s.recordLatch d).acceptMask d else s.recordLatch d).answer .nothing := by
  obtain ⟨hp, rfl⟩ := portWrite_eq_next h
  exact ⟨hp, by simp [State.whenReady]⟩

theorem execRdMask_next {s t : State} (h : execRdMask s = .next t) :
    s.powerOns ≠ 0 ∧ t = s.answer (.byte s.regs.latch) := latchRead_eq_next h

theorem execWrStatus_next {d : Byte} {s t : State} (h : execWrStatus d s = .next t) :
    s.powerOns ≠ 0 ∧ t = (s.recordLatch d).answer .nothing := portWrite_eq_next h

theorem execRdStatus_next {s t : State} (h : execRdStatus s = .next t) :
    s.powerOns ≠ 0 ∧
      t = (if s.isProtected then s else { s with regs := afterStatusRead s.regs (statusByte s.regs) }).answer
        (.byte (statusByte s.regs)) := by
  obtain ⟨hp, hn⟩ := ifPowered_eq_next h
  exact ⟨hp, (Host.Outcome.next.inj hn).symm⟩

/-! ### OAMADDR, OAMDATA, OAMDMA -/

theorem execWrOamAddr_next {d : Byte} {s t : State} (h : execWrOamAddr d s = .next t) :
    s.powerOns ≠ 0 ∧ t = State.answer { s.recordLatch d with regs.oamAddr := d } .nothing := portWrite_eq_next h

theorem execRdOamAddr_next {s t : State} (h : execRdOamAddr s = .next t) :
    s.powerOns ≠ 0 ∧ t = s.answer (.byte s.regs.latch) := latchRead_eq_next h

theorem execWrOamData_next {d : Byte} {s t : State} (h : execWrOamData d s = .next t) :
    s.powerOns ≠ 0 ∧
      t = (((s.recordLatch d).oamWrite s.regs.oamAddr.toNat d).advanceOamAddr).answer .nothing := by
  obtain ⟨hp, rfl⟩ := portWrite_eq_next h
  exact ⟨hp, by simp⟩

theorem execRdOamData_next {s t : State} (h : execRdOamData s = .next t) :
    s.powerOns ≠ 0 ∧
      t = (s.recordLatch (s.oamRead s.regs.oamAddr.toNat)).answer (.byte (s.oamRead s.regs.oamAddr.toNat)) := by
  obtain ⟨hp, hn⟩ := ifPowered_eq_next h
  exact ⟨hp, (Host.Outcome.next.inj hn).symm⟩

theorem execWrOamDma_next {p : Byte} {s t : State} (h : execWrOamDma p s = .next t) :
    s.powerOns ≠ 0 ∧ p ∉ Config.params.reentrantPages ∧ t = (dmaCopy p (s.recordLatch p)).answer .nothing := by
  obtain ⟨hp, hn⟩ := ifPowered_eq_next h
  split at hn
  · cases hn
  · exact ⟨hp, ‹_›, (portWrite_eq_next hn).2⟩

/-! ### SCROLL, ADDR, DATA -/

theorem execWrScroll_next {d : Byte} {s t : State} (h : execWrScroll d s = .next t) :
    s.powerOns ≠ 0 ∧
      t = (if s.time.ready then (s.recordLatch d).acceptScroll d else s.recordLatch d).answer .nothing := by
  obtain ⟨hp, rfl⟩ := portWrite_eq_next h
  exact ⟨hp, by simp [State.whenReady]⟩

theorem execRdScroll_next {s t : State} (h : execRdScroll s = .next t) :
    s.powerOns ≠ 0 ∧ t = s.answer (.byte s.regs.latch) := latchRead_eq_next h

theorem execWrAddr_next {d : Byte} {s t : State} (h : execWrAddr d s = .next t) :
    s.powerOns ≠ 0 ∧ t = ((s.recordLatch d).acceptAddr d).answer .nothing := portWrite_eq_next h

theorem execRdAddr_next {s t : State} (h : execRdAddr s = .next t) :
    s.powerOns ≠ 0 ∧ t = s.answer (.byte s.regs.latch) := latchRead_eq_next h

theorem execWrData_next {d : Byte} {s t : State} (h : execWrData d s = .next t) :
    s.powerOns ≠ 0 ∧
      t = (((s.recordLatch d).vramWrite (dataLocation Config.params.paletteMirror s.regs.vaddr).toNat d).advanceVaddr).answer
        .nothing := by
  obtain ⟨hp, hn⟩ := ifPowered_eq_next h
  rw [withDataIndex_eq] at hn
  exact ⟨hp, (Host.Outcome.next.inj hn).symm⟩

theorem execRdData_next {s t : State} (h : execRdData s = .next t) :
    s.powerOns ≠ 0 ∧
      t = (if s.isProtected then s
           else (s.recordLatch (s.vramRead (dataLocation Config.params.paletteMirror s.regs.vaddr).toNat)).advanceVaddr).answer
        (.byte (s.vramRead (dataLocation Config.params.paletteMirror s.regs.vaddr).toNat)) := by
  obtain ⟨hp, hn⟩ := ifPowered_eq_next h
  rw [withDataIndex_eq] at hn
  exact ⟨hp, (Host.Outcome.next.inj hn).symm⟩

/-! ### Host calls -/

theorem execPowerOn_next {s t : State} (h : execPowerOn s = .next t) :
    t = (({ s with vram := [], oam := [], fb := [], isProtected := false, frameCeiling := none, nmiLog := [],
                   powerOns := s.powerOns + 1 }.clearRegisters Config.params).answer .nothing) :=
  (Host.Outcome.next.inj h).symm

theorem execReset_next {s t : State} (h : execReset s = .next t) :
    s.powerOns ≠ 0 ∧ t = (s.clearRegisters Config.params).answer .nothing := by
  obtain ⟨hp, hn⟩ := ifPowered_eq_next h
  exact ⟨hp, (Host.Outcome.next.inj hn).symm⟩

theorem execStepTo_next {n : Nat} {s t : State} (h : execStepTo n s = .next t) :
    s.powerOns ≠ 0 ∧ t = (runTo Config.params n s).answer .nothing := by
  obtain ⟨hp, hn⟩ := ifPowered_eq_next h
  exact ⟨hp, (Host.Outcome.next.inj hn).symm⟩

theorem execStopAfterFrame_next {n : Nat} {s t : State} (h : execStopAfterFrame n s = .next t) :
    s.powerOns ≠ 0 ∧ t = { s with frameCeiling := some n }.answer .nothing := by
  obtain ⟨hp, hn⟩ := ifPowered_eq_next h
  exact ⟨hp, (Host.Outcome.next.inj hn).symm⟩

theorem execProtectAcquire_next {s t : State} (h : execProtectAcquire s = .next t) :
    s.powerOns ≠ 0 ∧ t = { s with isProtected := true }.answer (.token s.isProtected) := by
  obtain ⟨hp, hn⟩ := ifPowered_eq_next h
  exact ⟨hp, (Host.Outcome.next.inj hn).symm⟩

theorem execProtectRelease_next {b : Bool} {s t : State} (h : execProtectRelease b s = .next t) :
    s.powerOns ≠ 0 ∧ t = { s with isProtected := b }.answer .nothing := by
  obtain ⟨hp, hn⟩ := ifPowered_eq_next h
  exact ⟨hp, (Host.Outcome.next.inj hn).symm⟩

theorem execFbRead_next {x y : Nat} {s t : State} (h : execFbRead x y s = .next t) :
    s.powerOns ≠ 0 ∧ x ≤ 255 ∧ y ≤ 239 ∧ t = s.answer (.pixel (s.fbPixel x y)) := by
  obtain ⟨hp, hn⟩ := ifPowered_eq_next h
  split at hn
  · cases hn
  · exact ⟨hp, by omega, by omega, (Host.Outcome.next.inj hn).symm⟩

/-! ### Faults -/

/-- No operation faults, in any state: the DATA ports' check never fires, and no other meaning raises a fault. -/
theorem exec_ne_fault (i : Instr) (s : State) (f : Fault) : exec i s ≠ .fault f := by
  cases i with
  | wrOamDma =>
    refine ifPowered_ne_fault ?_
    split
    · simp
    · exact ifPowered_ne_fault (by simp)
  | fbRead =>
    refine ifPowered_ne_fault ?_
    split <;> simp
  | powerOn => simp [exec, execPowerOn]
  | wrCtrl | wrMask | wrStatus | wrOamAddr | wrOamData | wrScroll | wrAddr | wrData
  | rdCtrl | rdMask | rdStatus | rdOamAddr | rdOamData | rdScroll | rdAddr | rdData
  | reset | stepTo | stopAfterFrame | protectAcquire | protectRelease => exact ifPowered_ne_fault (by simp)

/-! ### Sequences -/

/-- A sequence of operations that answers a next state performed its first operation and then the rest. -/
theorem execAll_cons_next {i : Instr} {is : List Instr} {s t : State} (h : execAll (i :: is) s = .next t) :
    ∃ u, exec i s = .next u ∧ execAll is u = .next t := by
  unfold execAll at h
  cases e : exec i s with
  | next u => rw [e] at h; exact ⟨u, rfl, h⟩
  | fault f => rw [e] at h; cases h
  | refused f => rw [e] at h; cases h

end Sys2Proof.Machine
end

