-- ==== Sys2Proof/Laws/PerInstr.lean ====
section
/-! SUPPORT. Statements about every instruction as syntax, one lemma per constructor. -/

namespace Sys2Proof.Laws.EncodedRow

/-- The word of an operation lies in its row of opcode_table.json: under the row's mask it is the row's match. -/
def Statement (i : Instr) : Prop := (encode i).word &&& rowMask i = rowMatch i

theorem wrCtrl (d : Byte) : Statement (.wrCtrl d) := by revert d; unfold Statement; decide +kernel
theorem rdCtrl : Statement .rdCtrl := by unfold Statement; decide
theorem wrMask (d : Byte) : Statement (.wrMask d) := by revert d; unfold Statement; decide +kernel
theorem rdMask : Statement .rdMask := by unfold Statement; decide
theorem wrStatus (d : Byte) : Statement (.wrStatus d) := by revert d; unfold Statement; decide +kernel
theorem rdStatus : Statement .rdStatus := by unfold Statement; decide
theorem wrOamAddr (d : Byte) : Statement (.wrOamAddr d) := by revert d; unfold Statement; decide +kernel
theorem rdOamAddr : Statement .rdOamAddr := by unfold Statement; decide
theorem wrOamData (d : Byte) : Statement (.wrOamData d) := by revert d; unfold Statement; decide +kernel
theorem rdOamData : Statement .rdOamData := by unfold Statement; decide
theorem wrScroll (d : Byte) : Statement (.wrScroll d) := by revert d; unfold Statement; decide +kernel
theorem rdScroll : Statement .rdScroll := by unfold Statement; decide
theorem wrAddr (d : Byte) : Statement (.wrAddr d) := by revert d; unfold Statement; decide +kernel
theorem rdAddr : Statement .rdAddr := by unfold Statement; decide
theorem wrData (d : Byte) : Statement (.wrData d) := by revert d; unfold Statement; decide +kernel
theorem rdData : Statement .rdData := by unfold Statement; decide
theorem wrOamDma (page : Byte) : Statement (.wrOamDma page) := by revert page; unfold Statement; decide +kernel
theorem powerOn : Statement .powerOn := by unfold Statement; decide
theorem reset : Statement .reset := by unfold Statement; decide
theorem stepTo (n : Nat) : Statement (.stepTo n) :=
  show txWord true false 0x0002 0 &&& (0x3FFFFFF : TxWord) = 0x2000200 by decide
theorem stopAfterFrame (n : Nat) : Statement (.stopAfterFrame n) :=
  show txWord true false 0x0003 0 &&& (0x3FFFFFF : TxWord) = 0x2000300 by decide
theorem protectAcquire : Statement .protectAcquire := by unfold Statement; decide
theorem protectRelease (token : Bool) : Statement (.protectRelease token) :=
  show txWord true false 0x0005 0 &&& (0x3FFFFFF : TxWord) = 0x2000500 by decide
theorem fbRead (x y : Nat) : Statement (.fbRead x y) :=
  show txWord true false 0x0006 0 &&& (0x3FFFFFF : TxWord) = 0x2000600 by decide

end Sys2Proof.Laws.EncodedRow
end

