-- ==== Sys2Proof/Laws/Step.lean ====
section
/-! SUPPORT. The inversion lemma of `step`, and what its assertions say (60_exceptions.md R303). -/

namespace Sys2Proof.Machine

/-- Everything a step that answers a next state can have done: waited with nothing issued, or performed the oldest operation. -/
theorem step_eq_next {s s' : State} (h : step s = .next s') :
    assertions Config.params s = none ∧
      ((s.pending = [] ∧ s' = s) ∨
       ∃ t rest i, s.pending = t :: rest ∧ decode t = .ok i ∧ exec i { s with pending := rest } = .next s') := by
  unfold step at h
  cases ha : assertions Config.params s with
  | some f => simp [ha] at h
  | none =>
    refine ⟨rfl, ?_⟩
    cases hq : s.pending with
    | nil =>
      simp only [ha, State.takePending, hq] at h
      exact Or.inl ⟨rfl, (Host.Outcome.next.inj h).symm⟩
    | cons t rest =>
      simp only [ha, State.takePending, hq] at h
      cases hd : decode t with
      | error r => simp [hd] at h
      | ok i =>
        simp only [hd] at h
        exact Or.inr ⟨t, rest, i, rfl, hd, h⟩

/-- A step that ends in a fault broke an assertion, or its operation faulted. -/
theorem step_eq_fault {s : State} {f : Fault} (h : step s = .fault f) :
    assertions Config.params s = some f ∨
      ∃ t rest i, s.pending = t :: rest ∧ decode t = .ok i ∧ exec i { s with pending := rest } = .fault f := by
  unfold step at h
  cases ha : assertions Config.params s with
  | some g => simp [ha] at h; simp [h]
  | none =>
    cases hq : s.pending with
    | nil => simp [ha, State.takePending, hq] at h
    | cons t rest =>
      simp only [ha, State.takePending, hq] at h
      cases hd : decode t with
      | error r => simp [hd] at h
      | ok i =>
        simp only [hd] at h
        exact Or.inr ⟨t, rest, i, rfl, hd, h⟩

/-- The counter assertion in words. -/
theorem countersInRange_iff (s : State) : s.countersInRange = true ↔ s.time.dot < 341 ∧ s.time.scanline < 262 := by
  simp [State.countersInRange]

/-- The register assertion in words. -/
theorem registersCoherent_iff (P : Params) (s : State) :
    s.registersCoherent P = true ↔
      (s.time.ready = true ↔ P.warmup < s.time.master) ∧
      (s.regs.ntBase = 0x2000 ∨ s.regs.ntBase = 0x2400 ∨ s.regs.ntBase = 0x2800 ∨ s.regs.ntBase = 0x2C00) ∧
      (s.regs.bgPatternBase = 0x0000 ∨ s.regs.bgPatternBase = 0x1000) ∧
      (s.regs.vinc = 1 ∨ s.regs.vinc = 32) ∧ PositionLaw P s.time := by
  simp only [State.registersCoherent, PositionLaw, Bool.and_eq_true, Bool.or_eq_true, beq_iff_eq, and_assoc, or_assoc]
  constructor <;> rintro ⟨h, rest⟩ <;> refine ⟨?_, rest⟩
  · simp [h]
  · by_cases hw : P.warmup < s.time.master <;> simp_all

/-- A state that meets the invariant passes every assertion. -/
theorem assertions_of_inv {s : State} (h : Inv s) : assertions Config.params s = none := by
  have h1 : s.countersInRange = true := (countersInRange_iff s).mpr ⟨h.dot_lt, h.scanline_lt⟩
  have h2 : s.registersCoherent Config.params = true := (registersCoherent_iff _ s).mpr
    ⟨h.ready_iff, h.ntBase_legal, h.bgPatternBase_legal, h.vinc_legal, h.position⟩
  simp [assertions, h1, h2]

/-- A state that passes every assertion, with its memories in canonical form, meets the invariant. -/
theorem inv_of_assertions {s : State} (h : assertions Config.params s = none) (hm : Memory.wf s = true) : Inv s := by
  unfold assertions at h
  split at h
  · cases h
  · split at h
    · cases h
    · next h1 h2 =>
      simp only [Bool.not_eq_true', Bool.not_eq_false] at h1 h2
      rw [countersInRange_iff] at h1
      rw [registersCoherent_iff] at h2
      exact ⟨h1.1, h1.2, h2.1, h2.2.1, h2.2.2.1, h2.2.2.2.1, h2.2.2.2.2, hm⟩

end Sys2Proof.Machine
end

