-- ==== Sys2Proof/Machine/Pseudo.lean ====
section
/-! DEFINITION. The pseudo-operations of 30_encoding.md R112, each with its expansion. No word encodes one; a host issues the expansion. -/

namespace Sys2Proof.Machine

/-- The pseudo-operations (R112). -/
inductive PseudoOp where
  /-- `SETADDR a16` -/
  | setAddr (a : Addr)
  /-- `SETADDR! a16` -/
  | setAddrAnyToggle (a : Addr)
  /-- `SETSCROLL x, y` -/
  | setScroll (x y : Byte)
  /-- `DMA p` -/
  | dma (p : Byte)
  /-- `WAITREADY` -/
  | waitReady
  deriving DecidableEq, Repr

/-- `a16[15:8]`. -/
def highByte (a : Addr) : Byte := a.extractLsb' 8 8

/-- `a16[7:0]`. -/
def lowByte (a : Addr) : Byte := a.extractLsb' 0 8

/-- The operations a pseudo-operation stands for (R112). -/
def expandPseudo (P : Params) : PseudoOp → List Instr
  | .setAddr a => [.wrAddr (highByte a), .wrAddr (lowByte a)]
  | .setAddrAnyToggle a => [.rdStatus, .wrAddr (highByte a), .wrAddr (lowByte a)]
  | .setScroll x y => [.wrScroll x, .wrScroll y]
  | .dma p => [.wrOamDma p]
  | .waitReady => [.stepTo (P.warmup + 1)]

end Sys2Proof.Machine
end

