-- ==== Sys2Proof/Tests/Slice0.lean ====
section
/-! SUPPORT. Tests: expected values are those of spec/95_test_vectors.md ("S" and "P" its worked examples and programs) and of the match
and mask columns of spec/opcode_table.json; and the witnesses of the obligations' hypotheses. -/

namespace Sys2Proof.Machine.Tests

/-- The block after POWER_ON and STEP 29659 (95_test_vectors.md section 4 and program P1). -/
def readyState : State :=
  { State.reset with time := { master := 29659, dot := 333, scanline := 86, frame := 0, ready := true, phase := .ready } }

/-- The block one tick before the vblank tick with the NMI enabled (program P2). -/
def beforeVblank : State :=
  { State.reset with
    regs.nmiEnable := true
    time := { master := 82182, dot := 1, scanline := 241, frame := 0, ready := true, phase := .ready } }

/-- An operation answers a next state with a property. -/
def answers (i : Instr) (s : State) (p : State → Bool) : Bool :=
  match exec i s with
  | .next t => p t
  | .fault _ | .refused _ => false

/-- An operation is refused for a reason. -/
def refuses (i : Instr) (s : State) (r : Refusal) : Bool :=
  match exec i s with
  | .refused r' => r' == r
  | .next _ | .fault _ => false

/-- What the decoder reads from a word without an argument. -/
def reads (w : TxWord) : Option Instr :=
  match decode { word := w } with
  | .ok i => some i
  | .error _ => none

/-- Why the decoder refuses a word. -/
def rejects (w : TxWord) : Option DecodeRefusal :=
  match decode { word := w } with
  | .ok _ => none
  | .error r => some r

/-! ### Well-formedness: the check refuses an ill-formed term -/

theorem test_wellFormed_refuses_column_256 : (Instr.fbRead 256 0).wellFormed = false := by decide
theorem test_wellFormed_refuses_row_240 : (Instr.fbRead 0 240).wellFormed = false := by decide
theorem test_wellFormed_accepts_last_pixel : (Instr.fbRead 255 239).wellFormed = true := by decide

/-! ### Decoding: every constructor, the word written out as H, R, A, D (R100, R103, R104) -/

theorem test_decode_wrCtrl : reads 0b00001000000000000010000000#26 = some (.wrCtrl 0x80) := by decide
theorem test_decode_rdCtrl : reads 0b01001000000000000000000000#26 = some .rdCtrl := by decide
theorem test_decode_wrMask : reads 0b00001000000000000100011000#26 = some (.wrMask 0x18) := by decide
theorem test_decode_rdMask : reads 0b01001000000000000100000000#26 = some .rdMask := by decide
theorem test_decode_wrStatus : reads 0b00001000000000001011111111#26 = some (.wrStatus 0xFF) := by decide
theorem test_decode_rdStatus_ignores_data : reads 0b01001000000000001011111111#26 = some .rdStatus := by decide
theorem test_decode_wrOamAddr : reads 0b00001000000000001111111110#26 = some (.wrOamAddr 0xFE) := by decide
theorem test_decode_rdOamAddr : reads 0b01001000000000001100000000#26 = some .rdOamAddr := by decide
theorem test_decode_wrOamData : reads 0b00001000000000010000000001#26 = some (.wrOamData 0x01) := by decide
theorem test_decode_rdOamData : reads 0b01001000000000010000000000#26 = some .rdOamData := by decide
theorem test_decode_wrScroll : reads 0b00001000000000010100010000#26 = some (.wrScroll 0x10) := by decide
theorem test_decode_rdScroll : reads 0b01001000000000010100000000#26 = some .rdScroll := by decide
theorem test_decode_wrAddr : reads 0b00001000000000011000100001#26 = some (.wrAddr 0x21) := by decide
theorem test_decode_rdAddr : reads 0b01001000000000011000000000#26 = some .rdAddr := by decide
theorem test_decode_wrData : reads 0b00001000000000011110101011#26 = some (.wrData 0xAB) := by decide
theorem test_decode_rdData : reads 0b01001000000000011100000000#26 = some .rdData := by decide
theorem test_decode_wrOamDma : reads 0b00010000000001010000000010#26 = some (.wrOamDma 0x02) := by decide
theorem test_decode_powerOn : reads 0b10000000000000000000000000#26 = some .powerOn := by decide
theorem test_decode_reset : reads 0b10000000000000000100000000#26 = some .reset := by decide
theorem test_decode_stepTo :
    decode { word := 0b10000000000000001000000000#26, arg := { num := 7 } } = .ok (.stepTo 7) := by decide
theorem test_decode_stopAfterFrame :
    decode { word := 0b10000000000000001100000000#26, arg := { num := 3 } } = .ok (.stopAfterFrame 3) := by decide
theorem test_decode_protectAcquire : reads 0b10000000000000010000000000#26 = some .protectAcquire := by decide
theorem test_decode_protectRelease :
    decode { word := 0b10000000000000010100000000#26, arg := { token := true } } = .ok (.protectRelease true) := by decide
theorem test_decode_fbRead :
    decode { word := 0b10000000000000011000000000#26, arg := { x := 3, y := 5 } } = .ok (.fbRead 3 5) := by decide

theorem test_decode_refuses_dma_read : rejects 0x1401400 = some .notAPpuPort := by decide
theorem test_decode_refuses_port_2008 : rejects 0x0200800 = some .notAPpuPort := by decide
theorem test_decode_refuses_port_4000 : rejects 0x0400000 = some .notAPpuPort := by decide
theorem test_decode_refuses_host_read : rejects 0x3000000 = some .reservedHostEncoding := by decide
theorem test_decode_refuses_host_data : rejects 0x2000001 = some .reservedHostEncoding := by decide
theorem test_decode_refuses_host_id_7 : rejects 0x2000700 = some .reservedHostEncoding := by decide

theorem test_decodeTableWord_wrData : decodeTableWord 32 0x02007AB = some (.wrData 0xAB) := by decide
theorem test_withFetchWord_runs_the_word :
    step (State.reset.withFetchWord 32 0x02003FE) = exec (.wrOamAddr 0xFE) State.reset := rfl

/-! ### The address translator (95_test_vectors.md section 3) -/

theorem test_translate_fourEntries :
    [0x1FFF, 0x2FFF, 0x3000, 0x3456, 0x3EFF, 0x3F0F, 0x3F10, 0x3F11, 0x3F14, 0x3F1C, 0x3F34, 0x3FFF].map
        (translate .fourEntries)
      = [0x1FFF, 0x2FFF, 0x2000, 0x2456, 0x2EFF, 0x3F0F, 0x3F00, 0x3F11, 0x3F04, 0x3F0C, 0x3F04, 0x3F1F] := by decide
theorem test_translate_allSprite :
    [0x3F10, 0x3F11, 0x3F13, 0x3F1F, 0x3F34, 0x3FFF].map (translate .allSprite)
      = [0x3F00, 0x3F01, 0x3F03, 0x3F0F, 0x3F04, 0x3F0F] := by decide
theorem test_translate_only3F10 :
    [0x3F10, 0x3F11, 0x3F14, 0x3F30, 0x3F34, 0x3FFF].map (translate .only3F10)
      = [0x3F00, 0x3F11, 0x3F14, 0x3F00, 0x3F14, 0x3F1F] := by decide
theorem test_paletteColor_backdrop_and_entry :
    let s := (State.reset.vramWrite 0x3F00 0x0F).vramWrite 0x3F05 0x2A
    (paletteColor Config.params s 0 1 0, paletteColor Config.params s 0 1 1) = (0x0F, 0x2A) := by decide

/-! ### Ports (95_test_vectors.md sections 4 to 9, 11) -/

theorem test_wrCtrl_fields :
    answers (.wrCtrl 0x95) readyState (fun t => t.regs ==
      { Regs.reset with ntBase := 0x2400, vinc := 32, bgPatternBase := 0x1000, nmiEnable := true, latch := 0x95 }) = true := by
  decide
theorem test_wrCtrl_ignored_before_ready :
    answers (.wrCtrl 0xFF) { readyState with time.ready := false, time.master := 29658, time.dot := 332 }
      (fun t => t.regs == { Regs.reset with latch := 0xFF }) = true := by decide
theorem test_rdCtrl_returns_latch :
    answers .rdCtrl { readyState with regs.latch := 0x04 } (fun t => t.returned == .byte 0x04) = true := by decide
theorem test_wrMask_fields :
    answers (.wrMask 0xE7) readyState (fun t => t.regs == { Regs.reset with grayscale := true, latch := 0xE7 }) = true := by
  decide
theorem test_wrMask_enables :
    answers (.wrMask 0x10) readyState (fun t => t.regs == { Regs.reset with showSprites := true, latch := 0x10 }) = true := by
  decide
theorem test_rdMask_returns_latch :
    answers .rdMask { readyState with regs.latch := 0xE7 } (fun t => t.returned == .byte 0xE7) = true := by decide
theorem test_wrStatus_records_latch :
    answers (.wrStatus 0xFF) readyState (fun t => t.regs == { Regs.reset with latch := 0xFF }) = true := by decide
theorem test_rdStatus_composes_and_clears :
    answers .rdStatus
      { readyState with regs.vblank := true, regs.spriteOverflow := true, regs.latch := 0x3C, regs.toggle := true }
      (fun t => t.returned == .byte 0xBC && t.regs == { Regs.reset with spriteOverflow := true, latch := 0xBC }) = true := by
  decide
theorem test_rdStatus_protected_changes_nothing :
    answers .rdStatus
      { readyState with isProtected := true, regs.vblank := true, regs.sprite0Hit := true, regs.latch := 0xFF }
      (fun t => t.returned == .byte 0xDF && t.regs ==
        { Regs.reset with vblank := true, sprite0Hit := true, latch := 0xFF }) = true := by decide
theorem test_wrOamAddr_not_gated :
    answers (.wrOamAddr 0x33) State.reset (fun t => t.regs == { Regs.reset with oamAddr := 0x33, latch := 0x33 }) = true := by
  decide
theorem test_rdOamAddr_returns_latch_not_address :
    answers .rdOamAddr { readyState with regs.oamAddr := 0xFF, regs.latch := 0x01 } (fun t => t.returned == .byte 0x01)
      = true := by decide
theorem test_wrOamData_wraps :
    answers (.wrOamData 0x02) { State.reset with regs.oamAddr := 0xFF }
      (fun t => t.oam == [(0xFF, 0x02)] && t.regs.oamAddr == 0x00) = true := by decide
theorem test_rdOamData_does_not_advance :
    answers .rdOamData { State.reset with oam := [(0x05, 0x77)], regs.oamAddr := 0x05 }
      (fun t => t.returned == .byte 0x77 && t.regs.oamAddr == 0x05 && t.regs.latch == 0x77) = true := by decide
theorem test_wrScroll_first_is_x :
    answers (.wrScroll 0x10) readyState
      (fun t => t.regs == { Regs.reset with scrollX := 0x10, toggle := true, latch := 0x10 }) = true := by decide
theorem test_wrScroll_second_is_y :
    answers (.wrScroll 0x30) { readyState with regs.toggle := true, regs.vaddr := 0x2000 }
      (fun t => t.regs == { Regs.reset with scrollY := 0x30, vaddr := 0x2000, latch := 0x30 }) = true := by decide
theorem test_rdScroll_keeps_toggle :
    answers .rdScroll { readyState with regs.toggle := true, regs.latch := 0x30 }
      (fun t => t.returned == .byte 0x30 && t.regs.toggle) = true := by decide
theorem test_wrAddr_first_is_high :
    answers (.wrAddr 0x21) readyState (fun t => t.regs.vaddr == 0x2100 && t.regs.toggle) = true := by decide
theorem test_wrAddr_second_is_low :
    answers (.wrAddr 0x08) { readyState with regs.vaddr := 0x2100, regs.toggle := true }
      (fun t => t.regs.vaddr == 0x2108 && !t.regs.toggle) = true := by decide
theorem test_rdAddr_keeps_toggle :
    answers .rdAddr { readyState with regs.toggle := true, regs.latch := 0x21 }
      (fun t => t.returned == .byte 0x21 && t.regs.toggle) = true := by decide
theorem test_wrData_mirrors_and_wraps :
    answers (.wrData 0x77) { State.reset with regs.vaddr := 0xFFE0, regs.vinc := 32 }
      (fun t => t.vram == [(0x3F00, 0x77)] && t.regs.vaddr == 0x0000) = true := by decide
theorem test_wrData_protected_keeps_latch :
    answers (.wrData 0x55) { State.reset with regs.vaddr := 0xC123, isProtected := true }
      (fun t => t.vram == [(0x0123, 0x55)] && t.regs.vaddr == 0xC124 && t.regs.latch == 0x00) = true := by decide
theorem test_rdData_has_no_buffer :
    answers .rdData { readyState with vram := [(0x2108, 0xAB)], regs.vaddr := 0x2108, regs.vinc := 32 }
      (fun t => t.returned == .byte 0xAB && t.regs.vaddr == 0x2128 && t.regs.latch == 0xAB) = true := by decide
theorem test_rdData_protected_does_not_advance :
    answers .rdData { readyState with vram := [(0x2108, 0xAB)], regs.vaddr := 0x2108, isProtected := true }
      (fun t => t.returned == .byte 0xAB && t.regs.vaddr == 0x2108 && t.regs.latch == 0x00) = true := by decide
theorem test_wrOamDma_refuses_reentrant_pages :
    (refuses (.wrOamDma 0x20) State.reset .dmaReentrantPage && refuses (.wrOamDma 0x3F) State.reset .dmaReentrantPage)
      = true := by decide
theorem test_wrOamDma_performs_neighbours_and_keeps_oam_addr :
    (answers (.wrOamDma 0x1F) { State.reset with regs.oamAddr := 0x10 }
        (fun t => t.regs.oamAddr == 0x10 && t.regs.latch == 0x1F && t.time.master == 0)
      && answers (.wrOamDma 0x40) State.reset (fun t => t.regs.latch == 0x40)) = true := by decide

/-! ### Host calls and time (95_test_vectors.md sections 10, 11) -/

theorem test_powerOn_clears :
    answers .powerOn { readyState with isProtected := true, frameCeiling := some 3, nmiLog := [82182] }
      (fun t => t.regs == Regs.reset && t.time == Timing.reset 0 && !t.isProtected && t.frameCeiling == none && t.nmiLog == [])
      = true := by decide
theorem test_reset_keeps_vram_ceiling_and_guard :
    answers .reset { readyState with isProtected := true, frameCeiling := some 0, vram := [(0x2000, 0x5E)], regs.vinc := 32 }
      (fun t => t.regs == Regs.reset && t.time == Timing.reset 0 && t.isProtected && t.frameCeiling == some 0
        && t.vram == [(0x2000, 0x5E)]) = true := by decide
theorem test_stepTo_sets_vblank_and_logs_the_nmi :
    answers (.stepTo 82183) beforeVblank
      (fun t => t.regs.vblank && t.nmiLog == [82182] && t.time.dot == 2 && t.time.master == 82183) = true := by decide
theorem test_stepTo_backwards_does_nothing :
    answers (.stepTo 50) { State.reset with time.master := 100, time.dot := 100 } (fun t => t.time.master == 100) = true := by
  decide
theorem test_stopAfterFrame :
    answers (.stopAfterFrame 2) { State.reset with frameCeiling := some 0 } (fun t => t.frameCeiling == some 2) = true := by
  decide
theorem test_protectAcquire_twice :
    (answers .protectAcquire State.reset (fun t => t.isProtected && t.returned == .token false)
      && answers .protectAcquire { State.reset with isProtected := true } (fun t => t.isProtected && t.returned == .token true))
      = true := by decide
theorem test_protectRelease_restores_token :
    (answers (.protectRelease true) { State.reset with isProtected := true } (fun t => t.isProtected)
      && answers (.protectRelease false) { State.reset with isProtected := true } (fun t => !t.isProtected)) = true := by decide
theorem test_fbRead_reads_row_and_column :
    answers (.fbRead 3 5) { State.reset with fb := [(1283, 0xA)] } (fun t => t.returned == .pixel 0xA) = true := by decide
theorem test_fbRead_refuses_outside :
    (refuses (.fbRead 256 0) State.reset .fbCoordinate && refuses (.fbRead 0 240) State.reset .fbCoordinate) = true := by decide
theorem test_refused_before_power_on :
    refuses .rdStatus State.beforePowerOn .beforePowerOn = true := by decide
theorem test_pseudo_setAddrAnyToggle_lands_from_toggle_1 :
    (match execAll (expandPseudo Config.params (.setAddrAnyToggle 0x2108)) { readyState with regs.toggle := true } with
      | .next t => t.regs.vaddr == 0x2108 && !t.regs.toggle
      | .fault _ | .refused _ => false) = true := by decide
theorem test_tick_clears_flags_at_pre_render :
    let s := { beforeVblank with regs.vblank := true, regs.sprite0Hit := true, time.scanline := 261, time.master := 89002 }
    (tick Config.params s).regs.vblank = false ∧ (tick Config.params s).regs.sprite0Hit = false := by decide
theorem test_tick_ready_and_wrap :
    (tick Config.params { State.reset with time.master := 29658 }).time.ready = true
    ∧ (nextTiming Config.params { master := 89341, dot := 340, scanline := 261, frame := 0, ready := true, phase := .ready }).frame
      = 1 := by decide

/-! ### Witnesses: for each obligation with hypotheses, a concrete state and operands that meet them, at the edges of each clause -/

/-- A small operation answers some next state. -/
def completes (i : Instr) (s : State) : Prop := ∃ t, exec i s = .next t

theorem inv_readyState : Inv readyState := inv_of_assertions (by decide) (by decide)
theorem inv_beforeVblank : Inv beforeVblank := inv_of_assertions (by decide) (by decide)

theorem witness_DecodeAcceptsExactlyTheTableRows :
    decode { word := 0x02000FF } = .ok (.wrCtrl 0xFF)
    ∧ (0x12002FF : TxWord) &&& rowMask .rdStatus = rowMatch .rdStatus
    ∧ (0x2000600 : TxWord) &&& rowMask (.fbRead 0 0) = rowMatch (.fbRead 0 0) := by decide
theorem witness_DecodeRefusesExactly :
    rejects 0x01FFF00 = some .notAPpuPort ∧ rejects 0x1401400 = some .notAPpuPort
    ∧ rejects 0x3000000 = some .reservedHostEncoding ∧ rejects 0x20000FF = some .reservedHostEncoding
    ∧ rejects 0x2000700 = some .reservedHostEncoding ∧ rejects 0x2000600 = none := by decide
theorem witness_DecodedOperandsAreTheWordsFields :
    decode { word := 0x02007FF } = .ok (.wrData 0xFF)
    ∧ decode { word := 0x2000300, arg := { num := 9 } } = .ok (.stopAfterFrame 9)
    ∧ decode { word := 0x2000500, arg := { token := true } } = .ok (.protectRelease true)
    ∧ decode { word := 0x2000600, arg := { x := 255, y := 239 } } = .ok (.fbRead 255 239) := by decide

/-- A state with one operation issued, the word `w`. -/
def issued (w : TxWord) : State := { State.reset with pending := [{ word := w }] }

theorem witness_StepRunsTheDecodedOperation :
    assertions Config.params (issued 0x02007AB) = none ∧ (issued 0x02007AB).pending = [{ word := 0x02007AB }]
    ∧ decode { word := 0x02007AB } = .ok (.wrData 0xAB) := by decide
theorem witness_StepRefusesOrWaits :
    assertions Config.params State.reset = none ∧ State.reset.pending = []
    ∧ assertions Config.params (issued 0x1401400) = none ∧ decode { word := 0x1401400 } = .error .notAPpuPort
    ∧ assertions Config.params (issued 0x2000700) = none ∧ decode { word := 0x2000700 } = .error .reservedHostEncoding := by
  decide
theorem witness_BrokenInvariantsAreFatal_counters :
    let s := { State.reset with time.dot := 341 }
    let u := { State.reset with time.scanline := 262 }
    ¬ (s.time.dot < 341 ∧ s.time.scanline < 262) ∧ ¬ (u.time.dot < 341 ∧ u.time.scanline < 262) := by decide
theorem witness_BrokenInvariantsAreFatal_registers :
    let s := { State.reset with regs.vinc := 2 }
    s.time.dot < 341 ∧ s.time.scanline < 262 ∧ ¬ (s.regs.vinc = 1 ∨ s.regs.vinc = 32) := by decide
theorem witness_BrokenInvariantsAreFatal_unbroken :
    let s := { readyState with time.dot := 340, time.scanline := 261, time.master := 89341 }
    s.time.dot < 341 ∧ s.time.scanline < 262 ∧ (s.time.ready = true ↔ Config.params.warmup < s.time.master)
    ∧ (s.regs.ntBase = 0x2000 ∨ s.regs.ntBase = 0x2400 ∨ s.regs.ntBase = 0x2800 ∨ s.regs.ntBase = 0x2C00)
    ∧ (s.regs.bgPatternBase = 0x0000 ∨ s.regs.bgPatternBase = 0x1000) ∧ (s.regs.vinc = 1 ∨ s.regs.vinc = 32)
    ∧ PositionLaw Config.params s.time := by
  unfold PositionLaw
  decide

theorem witness_accepted_writes : readyState.powerOns ≠ 0 ∧ readyState.time.ready = true := by decide
theorem witness_WrCtrlAccepted : readyState.powerOns ≠ 0 ∧ readyState.time.ready = true := witness_accepted_writes
theorem witness_WrMaskAccepted : readyState.powerOns ≠ 0 ∧ readyState.time.ready = true := witness_accepted_writes
theorem witness_WrScrollAccepted : readyState.powerOns ≠ 0 ∧ readyState.time.ready = true := witness_accepted_writes
theorem witness_GatedWritesBeforeReadyOnlyRecordTheLatch :
    State.reset.powerOns ≠ 0 ∧ State.reset.time.ready = false ∧ Instr.wrScroll 0x10 = .wrScroll 0x10 := by decide

/-- The hypothesis of every statement that asks only for a powered block. -/
theorem witness_powered : State.reset.powerOns ≠ 0 := by decide
theorem witness_WrStatusOnlyRecordsTheLatch : State.reset.powerOns ≠ 0 := witness_powered
theorem witness_RdStatusReturnsFlagsAndClearsVblank : State.reset.powerOns ≠ 0 := witness_powered
theorem witness_WrOamAddrSetsTheAddress : State.reset.powerOns ≠ 0 := witness_powered
theorem witness_WrOamDataStoresAndAdvances : State.reset.powerOns ≠ 0 := witness_powered
theorem witness_RdOamDataReadsWithoutAdvancing : State.reset.powerOns ≠ 0 := witness_powered
theorem witness_WrAddrSetsOneByte : State.reset.powerOns ≠ 0 := witness_powered
theorem witness_WrDataStoresAndAdvances : State.reset.powerOns ≠ 0 := witness_powered
theorem witness_RdDataReturnsTheByteNow : State.reset.powerOns ≠ 0 := witness_powered
theorem witness_ResetClearsRegistersKeepsTheRest : State.reset.powerOns ≠ 0 := witness_powered
theorem witness_StopAfterFrameSetsTheCeiling : State.reset.powerOns ≠ 0 := witness_powered
theorem witness_ProtectAcquireReturnsTheOldMode : State.reset.powerOns ≠ 0 := witness_powered
theorem witness_ProtectReleaseRestoresTheToken : State.reset.powerOns ≠ 0 := witness_powered

theorem witness_OamDataWritesCycleWithPeriod256 :
    State.reset.powerOns ≠ 0 ∧ (List.replicate 256 (0xEE : Byte)).length = 256 := ⟨by decide, List.length_replicate⟩
theorem witness_OamDmaCopiesThePageOrRefuses :
    State.reset.powerOns ≠ 0
    ∧ ¬ (0x20 ≤ (0x1F : Byte).toNat ∧ (0x1F : Byte).toNat ≤ 0x3F) ∧ ¬ (0x20 ≤ (0x40 : Byte).toNat ∧ (0x40 : Byte).toNat ≤ 0x3F)
    ∧ (0x20 ≤ (0x20 : Byte).toNat ∧ (0x20 : Byte).toNat ≤ 0x3F) ∧ (0x20 ≤ (0x3F : Byte).toNat ∧ (0x3F : Byte).toNat ≤ 0x3F) := by
  decide
theorem witness_AddressPairThenDataLandsThere : State.reset.powerOns ≠ 0 ∧ State.reset.regs.toggle = false := by decide
theorem witness_ToggleCountsWritesModTwo :
    readyState.time.ready = true ∧ (∀ i ∈ [Instr.wrAddr 0x21], ∃ d, i = .wrAddr d ∨ i = .wrScroll d)
    ∧ ∃ t, execAll [.wrAddr 0x21] readyState = .next t := by
  refine ⟨by decide, ?_, _, rfl⟩
  intro i hi
  exact ⟨0x21, Or.inl (List.mem_singleton.mp hi)⟩
theorem witness_VideoAddressAdvancesByVincPerAccess :
    readyState.isProtected = false ∧ (∀ i ∈ [Instr.wrData 0x77], i = .rdData ∨ ∃ d, i = .wrData d)
    ∧ ∃ t, execAll [.wrData 0x77] readyState = .next t := by
  refine ⟨by decide, ?_, _, rfl⟩
  intro i hi
  exact Or.inr ⟨0x77, List.mem_singleton.mp hi⟩

theorem witness_WriteOnlyPortReadsReturnTheLatch : State.reset.powerOns ≠ 0 ∧ Instr.rdAddr = .rdAddr := by decide
theorem witness_ProtectedReadsChangeNothing :
    let s := { State.reset with isProtected := true }
    s.powerOns ≠ 0 ∧ s.isProtected = true ∧ Instr.rdStatus.isPortRead = true := by decide
theorem witness_ProtectedPortOperationsKeepTheLatch :
    let s := { State.reset with isProtected := true }
    s.isProtected = true ∧ (Instr.wrData 0x55).isPortWrite = true ∧ completes (.wrData 0x55) s := ⟨by decide, by decide, _, rfl⟩

theorem witness_NameTableMirrorFolds :
    (0x3000 ≤ (0x3000 : Addr).toNat ∧ (0x3000 : Addr).toNat < 0x3F00)
    ∧ 0x3000 ≤ (0x3EFF : Addr).toNat ∧ (0x3EFF : Addr).toNat < 0x3F00 := by decide
theorem witness_TranslateStaysInRange : (0x0000 : Addr).toNat < 0x4000 ∧ (0x3FFF : Addr).toNat < 0x4000 := by decide
theorem witness_FourEntryPaletteMirror :
    (0x3F00 ≤ (0x3F00 : Addr).toNat ∧ (0x3F00 : Addr).toNat < 0x4000)
    ∧ (0x3F00 ≤ (0x3FFF : Addr).toNat ∧ (0x3FFF : Addr).toNat < 0x4000) ∧ (0x2FFF : Addr).toNat < 0x3000 := by decide
theorem witness_PaletteColorLookup :
    Config.params.paletteLookup = .intended ∧ (0 : BitVec 2).toNat = 0 ∧ (1 : BitVec 2).toNat ≠ 0
    ∧ ({ Config.params with paletteLookup := .asCoded } : Params).paletteLookup = .asCoded := by decide

theorem witness_OperationsBeforePowerOnRefused :
    State.beforePowerOn.powerOns = 0 ∧ Instr.rdStatus ≠ .powerOn := by decide
theorem witness_PoweredOperationsComplete_dma :
    State.reset.powerOns ≠ 0 ∧ (∀ p, Instr.wrOamDma 0x40 = .wrOamDma p → ¬ (0x20 ≤ p.toNat ∧ p.toNat ≤ 0x3F))
    ∧ (Instr.wrOamDma 0x40).wellFormed = true := by
  refine ⟨by decide, ?_, by decide⟩
  intro p hp
  cases hp
  decide
theorem witness_PoweredOperationsComplete_pixel :
    State.reset.powerOns ≠ 0 ∧ (∀ p, Instr.fbRead 255 239 ≠ .wrOamDma p) ∧ (Instr.fbRead 255 239).wellFormed = true :=
  ⟨witness_powered, by simp, by decide⟩
theorem witness_GuardedReadsLeaveNoTrace :
    State.reset.powerOns ≠ 0 ∧ ∀ i ∈ [Instr.rdStatus, .rdData], i.isPortRead = true := by decide
theorem witness_FbReadReturnsThePixelOrRefuses :
    State.reset.powerOns ≠ 0 ∧ ((255 : Nat) ≤ 255 ∧ (239 : Nat) ≤ 239) ∧ ((255 : Nat) < 256 ∨ (239 : Nat) < 0)
    ∧ ((255 : Nat) < 0 ∨ (239 : Nat) < 240) := by decide

theorem witness_StepToReachesItsTarget : State.reset.powerOns ≠ 0 ∧ State.reset.frameCeiling = none := by decide
theorem witness_StepToDoesNothingWhenItCannotAdvance_past :
    readyState.powerOns ≠ 0 ∧ (29659 : Nat) ≤ readyState.time.master := by decide
theorem witness_StepToDoesNothingWhenItCannotAdvance_ceiling :
    let s := { readyState with frameCeiling := some 0, time.frame := 1 }
    s.powerOns ≠ 0 ∧ ∃ c, s.frameCeiling = some c ∧ c < s.time.frame := ⟨by decide, 0, by decide, by decide⟩
theorem witness_StepToComposes : (0 : Nat) ≤ 1 ∧ completes (.stepTo 0) State.reset := ⟨by decide, _, rfl⟩
theorem witness_PositionFollowsMaster :
    readyState.powerOns ≠ 0 ∧ Inv readyState ∧ readyState.frameCeiling = none := ⟨by decide, inv_readyState, by decide⟩
theorem witness_PositionFollowsMaster_ceiling :
    let s := { readyState with frameCeiling := some 0 }
    s.powerOns ≠ 0 ∧ Inv s ∧ s.frameCeiling = some 0 := ⟨by decide, inv_of_assertions (by decide) (by decide), by decide⟩
theorem witness_FrameCeilingStopsStepping :
    let s := { readyState with frameCeiling := some 0 }
    s.powerOns ≠ 0 ∧ Inv s ∧ s.frameCeiling = some 0 ∧ s.time.frame ≤ 0 ∧ (0 + 1) * 89342 ≤ 89342 :=
  ⟨by decide, inv_of_assertions (by decide) (by decide), by decide, by decide, by decide⟩
theorem witness_ReadyFollowsMasterAfterEveryTick :
    ({ State.reset with time.master := 29658 } : State).time.master = 29658 ∧ Config.params.warmup = 29658
    ∧ State.reset.time.master < 29658 := by decide
theorem witness_ReadyFollowsMasterAfterEveryTick_operations :
    Inv readyState ∧ readyState.time.ready = true ∧ Instr.stepTo 0 ≠ .powerOn ∧ Instr.stepTo 0 ≠ .reset
    ∧ completes (.stepTo 0) readyState := ⟨inv_readyState, by decide, by decide, by decide, _, rfl⟩
theorem witness_VblankSetAtLine241Dot1 :
    beforeVblank.time.scanline = 241 ∧ beforeVblank.time.dot = 1 ∧ Config.params.flagTimingInWarmup = true := by decide
theorem witness_OnlyTheVblankTickRequestsAnNmi :
    (beforeVblank.time.scanline = 241 ∧ beforeVblank.time.dot = 1 ∧ Config.params.flagTimingInWarmup = true)
    ∧ ¬ (State.reset.time.scanline = 241 ∧ State.reset.time.dot = 1) := by decide
theorem witness_OnlyThePreRenderTickClearsTheFlags :
    let s := { beforeVblank with time.scanline := 261, time.master := 89002 }
    (s.time.scanline = 261 ∧ s.time.dot = 1 ∧ Config.params.flagTimingInWarmup = true)
    ∧ ¬ (beforeVblank.time.scanline = 261 ∧ beforeVblank.time.dot = 1) := by decide
theorem witness_OneNmiPerFrame :
    beforeVblank.powerOns ≠ 0 ∧ Inv beforeVblank ∧ beforeVblank.frameCeiling = none ∧ beforeVblank.regs.nmiEnable = true :=
  ⟨by decide, inv_beforeVblank, by decide, by decide⟩
theorem witness_RenderOffDrawsNothing :
    beforeVblank.regs.showBg = false ∧ beforeVblank.regs.showSprites = false ∧ completes (.stepTo 82182) beforeVblank :=
  ⟨by decide, by decide, _, rfl⟩
theorem witness_TickWritesOnlyItsOwnRow :
    (255 : Nat) < 256 ∧ (1 : Nat) ≠ State.reset.time.scanline
    ∧ 240 ≤ ({ beforeVblank with time.scanline := 240 } : State).time.scanline := by decide
theorem witness_PhaseProgressesOneWay :
    ({ Config.params with tVbl1 := 1, tVbl2 := 29659, tRender := 29659 } : Params).Legal := by
  unfold Params.Legal
  decide
theorem witness_PhaseProgressesOneWay_operations :
    State.reset.time.phase = phaseAt Config.params State.reset.time.master ∧ completes .rdCtrl State.reset := by
  refine ⟨?_, _, rfl⟩
  have h : 0 < Config.params.tVbl1 := Nat.lt_of_lt_of_le Nat.one_pos (Nat.le_add_right 1 _)
  show Phase.powerOn = phaseAt Config.params 0
  simp [phaseAt, h]
theorem witness_OnlySteppingMovesTimeAndForward :
    completes (.wrAddr 0x21) readyState ∧ Inv readyState := ⟨⟨_, rfl⟩, inv_readyState⟩
theorem witness_MemoriesChangeOnlyUnderTheirWriters :
    completes (.wrData 0xAB) readyState ∧ Instr.wrData 0xAB ≠ .powerOn := ⟨⟨_, rfl⟩, by decide⟩
theorem witness_RegistersChangeOnlyUnderTheirWriters :
    completes .rdStatus readyState ∧ Instr.rdStatus ≠ .powerOn ∧ Instr.rdStatus ≠ .reset := ⟨⟨_, rfl⟩, by decide, by decide⟩
/-- A read of CTRL writes no register, so it meets the hypothesis of every clause. -/
theorem witness_RegistersChangeOnlyUnderTheirWriters_every_clause :
    completes .rdCtrl readyState ∧ Instr.rdCtrl.isPortWrite = false
    ∧ (∀ d, Instr.rdCtrl ≠ .wrCtrl d ∧ Instr.rdCtrl ≠ .wrMask d ∧ Instr.rdCtrl ≠ .wrOamAddr d ∧ Instr.rdCtrl ≠ .wrOamData d
        ∧ Instr.rdCtrl ≠ .wrScroll d ∧ Instr.rdCtrl ≠ .wrAddr d ∧ Instr.rdCtrl ≠ .wrData d)
    ∧ (∀ n, Instr.rdCtrl ≠ .stepTo n ∧ Instr.rdCtrl ≠ .stopAfterFrame n) ∧ (∀ b, Instr.rdCtrl ≠ .protectRelease b)
    ∧ Instr.rdCtrl ∉ [.powerOn, .reset, .rdStatus, .rdOamData, .rdData, .protectAcquire] :=
  ⟨⟨_, rfl⟩, by decide, by simp, by simp, by simp, by decide⟩
theorem witness_StepKeepsTheInvariant :
    let s := { readyState with pending := [{ word := 0x02007AB }] }
    Inv s ∧ ∃ t, step s = .next t := ⟨inv_of_assertions (by decide) (by decide), _, rfl⟩
theorem witness_NoFatalFaultIsReachable : Inv readyState := inv_readyState

end Sys2Proof.Machine.Tests
end

/-! ### The name-table mirror (20_memory.md R65) -/

namespace Sys2Proof.Machine

/-- The mirror's difference does not wrap. -/
theorem sub_0x1000_toNat (a : Addr) (h : 0x1000 ≤ a.toNat) : (a - 0x1000).toNat = a.toNat - 0x1000 :=
  BitVec.toNat_sub_of_le (BitVec.le_def.mpr h)

/-- `Translate` inside the name-table mirror: the palette mirror, which runs second, meets an address below its region (R64, R65). -/
theorem translate_nameTableMirror (m : PaletteMirror) (a : Addr) (hlo : 0x3000 ≤ a.toNat) (hhi : a.toNat < 0x3F00) :
    translate m a = a - 0x1000 := by
  have hsub := sub_0x1000_toNat a (by omega)
  unfold translate
  rw [foldNameTable_in a hlo hhi, foldPalette_below m _ (by omega)]

/-- Settles O29: both sides translate to `a - 0x1000`, the left by the mirror and the right because it lies below every mirror. -/
theorem nameTableMirrorFolds : Obligations.NameTableMirrorFolds := by
  intro m a hlo hhi
  have hsub := sub_0x1000_toNat a (by omega)
  have hbase : translate m (a - 0x1000) = a - 0x1000 := translate_low m _ (by omega)
  rw [translate_nameTableMirror m a hlo hhi, hbase, hsub]
  exact ⟨rfl, rfl, by omega, by omega⟩

end Sys2Proof.Machine

/-! ### Protected mode (42_host_calls.md R214, R218) -/

namespace Sys2Proof.Machine

theorem State.recordLatch_of_isProtected (s : State) (v : Byte) (h : s.isProtected = true) : s.recordLatch v = s :=
  if_pos h

/-- On a powered block a read of a write-only port completes, in either mode (R133). -/
theorem latchRead_of_powered (s : State) (hp : s.powerOns ≠ 0) : latchRead s = .next (s.answer (.byte s.regs.latch)) := by
  unfold latchRead
  rw [ifPowered_of_ne _ _ hp, State.recordLatch_latch]

theorem execRdStatus_of_isProtected (s : State) (hp : s.powerOns ≠ 0) (h : s.isProtected = true) :
    execRdStatus s = .next (s.answer (.byte (statusByte s.regs))) := by
  simp [execRdStatus, hp, h]

theorem execRdOamData_of_isProtected (s : State) (hp : s.powerOns ≠ 0) (h : s.isProtected = true) :
    execRdOamData s = .next (s.answer (.byte (s.oamRead s.regs.oamAddr.toNat))) := by
  simp [execRdOamData, hp, State.recordLatch_of_isProtected _ _ h]

theorem execRdData_of_isProtected (s : State) (hp : s.powerOns ≠ 0) (h : s.isProtected = true) :
    execRdData s =
      .next (s.answer (.byte (s.vramRead (dataLocation Config.params.paletteMirror s.regs.vaddr).toNat))) := by
  simp [execRdData, hp, h]

/-- In protected mode every port read hands over one byte and leaves the state alone: the write-only ports hand over the latch, and
STATUS, OAMDATA and DATA skip what they write in normal mode. -/
theorem exec_portRead_of_isProtected (s : State) (i : Instr) (hp : s.powerOns ≠ 0) (h : s.isProtected = true)
    (hread : i.isPortRead = true) : ∃ v : Byte, exec i s = .next (s.answer (.byte v)) := by
  cases i with
  | rdCtrl | rdMask | rdOamAddr | rdScroll | rdAddr => exact ⟨_, latchRead_of_powered s hp⟩
  | rdStatus => exact ⟨_, execRdStatus_of_isProtected s hp h⟩
  | rdOamData => exact ⟨_, execRdOamData_of_isProtected s hp h⟩
  | rdData => exact ⟨_, execRdData_of_isProtected s hp h⟩
  | wrCtrl | wrMask | wrStatus | wrOamAddr | wrOamData | wrScroll | wrAddr | wrData | wrOamDma
  | powerOn | reset | stepTo | stopAfterFrame | protectAcquire | protectRelease | fbRead => cases hread

/-- Settles O38: the call completes on a powered block, and the state it leaves is powered and protected, so every port read there
only hands over its byte. -/
theorem protectAcquireReturnsTheOldMode : Obligations.ProtectAcquireReturnsTheOldMode := by
  intro s hp
  refine ⟨_, ?_, rfl, fun i hread => exec_portRead_of_isProtected _ i hp rfl hread⟩
  exact ifPowered_of_ne s _ hp

end Sys2Proof.Machine

/-! ### Ready and the master counter (43_timing.md R257, R253) -/

namespace Sys2Proof.Machine

/-- Only STEP_TO, POWER_ON and RESET move the counters: every other operation that completes keeps the whole timing state (R253). -/
theorem exec_time_eq {s t : State} {i : Instr} (hstep : ∀ n, i ≠ .stepTo n) (hpower : i ≠ .powerOn) (hreset : i ≠ .reset)
    (h : exec i s = .next t) : t.time = s.time := by
  cases i with
  | stepTo n => exact absurd rfl (hstep n)
  | powerOn => exact absurd rfl hpower
  | reset => exact absurd rfl hreset
  | wrCtrl d => obtain ⟨-, rfl⟩ := execWrCtrl_next h; split <;> simp
  | wrMask d => obtain ⟨-, rfl⟩ := execWrMask_next h; split <;> simp
  | wrScroll d => obtain ⟨-, rfl⟩ := execWrScroll_next h; split <;> simp
  | wrStatus d => obtain ⟨-, rfl⟩ := execWrStatus_next h; simp
  | wrOamAddr d => obtain ⟨-, rfl⟩ := execWrOamAddr_next h; simp
  | wrOamData d => obtain ⟨-, rfl⟩ := execWrOamData_next h; simp
  | wrAddr d => obtain ⟨-, rfl⟩ := execWrAddr_next h; simp
  | wrData d => obtain ⟨-, rfl⟩ := execWrData_next h; simp
  | wrOamDma page => obtain ⟨-, -, rfl⟩ := execWrOamDma_next h; simp
  | rdCtrl | rdMask | rdOamAddr | rdScroll | rdAddr => obtain ⟨-, rfl⟩ := latchRead_eq_next h; simp
  | rdStatus => obtain ⟨-, rfl⟩ := execRdStatus_next h; split <;> simp
  | rdOamData => obtain ⟨-, rfl⟩ := execRdOamData_next h; simp
  | rdData => obtain ⟨-, rfl⟩ := execRdData_next h; split <;> simp
  | stopAfterFrame n => obtain ⟨-, rfl⟩ := execStopAfterFrame_next h; simp
  | protectAcquire => obtain ⟨-, rfl⟩ := execProtectAcquire_next h; simp
  | protectRelease token => obtain ⟨-, rfl⟩ := execProtectRelease_next h; simp
  | fbRead x y => obtain ⟨-, -, -, rfl⟩ := execFbRead_next h; simp

/-- A tick sets `ready` from the `master` it leaves, whatever `ready` was before (R257). -/
theorem tick_ready_iff (P : Params) (s : State) : (tick P s).time.ready = true ↔ P.warmup < (tick P s).time.master := by
  simp

/-- The threshold stays passed, since `master` only grows, so the stepping loop never takes `ready` back (R257). -/
theorem runTo_ready_of_warmup_lt (P : Params) (n : Nat) (s : State) (hready : s.time.ready = true)
    (hmaster : P.warmup < s.time.master) : (runTo P n s).time.ready = true := by
  refine (ticks_induction P (fun s => s.time.ready = true ∧ P.warmup < s.time.master) ?_ _ s ⟨hready, hmaster⟩).1
  rintro s ⟨-, hlt⟩
  have hlt' : P.warmup < (tick P s).time.master := by
    rw [tick_time, nextTiming_master]
    omega
  exact ⟨(tick_ready_iff P s).mpr hlt', hlt'⟩

/-- From a state of the invariant that is ready, every operation but POWER_ON and RESET leaves the block ready: STEP_TO starts above the
threshold, and the others keep the timing state. -/
theorem exec_keeps_ready {s t : State} {i : Instr} (hinv : Inv s) (hready : s.time.ready = true) (hpower : i ≠ .powerOn)
    (hreset : i ≠ .reset) (h : exec i s = .next t) : t.time.ready = true := by
  by_cases hstep : ∃ n, i = .stepTo n
  · obtain ⟨n, rfl⟩ := hstep
    obtain ⟨-, rfl⟩ := execStepTo_next h
    exact runTo_ready_of_warmup_lt _ n s hready (hinv.ready_iff.mp hready)
  · rw [exec_time_eq (not_exists.mp hstep) hpower hreset h]
    exact hready

/-- Settles O47: the tick computes `ready` from the new `master`, the two clauses of the default threshold are that law at 29658, and
`exec_keeps_ready` is the persistence. -/
theorem readyFollowsMasterAfterEveryTick : Obligations.ReadyFollowsMasterAfterEveryTick := by
  refine ⟨fun P s => ⟨tick_ready_iff P s, fun hm hw => ?_, fun hm hw => ?_⟩, fun s t i => exec_keeps_ready⟩
  · have hmaster : (tick P s).time.master = 29659 := by rw [tick_time, nextTiming_master, hm]
    exact ⟨hmaster, (tick_ready_iff P s).mpr (by omega)⟩
  · have hmaster : ¬ P.warmup < (tick P s).time.master := by
      rw [tick_time, nextTiming_master]
      omega
    exact Bool.eq_false_iff.mpr (mt (tick_ready_iff P s).mp hmaster)

end Sys2Proof.Machine

/-! ### The decoder, the encoder and the opcode table (30_encoding.md R100-R105) -/

namespace Sys2Proof

/-! #### The transactions of the three tables, decoded -/

@[simp] theorem decode_portWriteTx (a : Addr) (d : Byte) : decode (portWriteTx a d) = decodePortWrite a d := by
  simp [decode, portWriteTx]

@[simp] theorem decode_portReadTx (a : Addr) : decode (portReadTx a) = decodePortRead a := by
  simp [decode, portReadTx]

@[simp] theorem decode_hostCallTx (a : Addr) (arg : HostArg) : decode (hostCallTx a arg) = decodeHostCall a arg := by
  simp [decode, hostCallTx]

/-! #### The three tables apart -/

theorem isPortWrite_of_decodePortWrite {a : Addr} {d : Byte} {i : Instr} (h : decodePortWrite a d = .ok i) :
    i.isPortWrite = true := by
  unfold decodePortWrite at h
  repeat' split at h
  all_goals cases h
  all_goals rfl

theorem isPortRead_of_decodePortRead {a : Addr} {i : Instr} (h : decodePortRead a = .ok i) : i.isPortRead = true := by
  unfold decodePortRead at h
  repeat' split at h
  all_goals cases h
  all_goals rfl

/-- The host calls with the operands of an out-of-band argument, each from its own slot (R102, R104). -/
def hostCallsOf (arg : HostArg) : List Instr :=
  [.powerOn, .reset, .stepTo arg.num, .stopAfterFrame arg.num, .protectAcquire, .protectRelease arg.token,
    .fbRead arg.x arg.y]

/-- What a host call decodes to: an operation that takes its operands from its own slots (R102, R104). -/
theorem mem_of_decodeHostCall {a : Addr} {arg : HostArg} {i : Instr} (h : decodeHostCall a arg = .ok i) :
    i ∈ hostCallsOf arg := by
  unfold decodeHostCall at h
  repeat' split at h
  all_goals cases h
  all_goals simp [hostCallsOf]

theorem isPortWrite_of_decodeHostCall {a : Addr} {arg : HostArg} {i : Instr} (h : decodeHostCall a arg = .ok i) :
    i.isPortWrite = false := by
  have hcalls : ∀ j ∈ hostCallsOf arg, j.isPortWrite = false := by
    simp [hostCallsOf, Instr.isPortWrite]
  exact hcalls i (mem_of_decodeHostCall h)

/-- An accepted word is a port write, a port read, or a host call with its reserved bits 0 (R105). -/
theorem decode_eq_ok {t : Transaction} {i : Instr} (h : decode t = .ok i) :
    (fieldH t.word = false ∧ fieldR t.word = false ∧ decodePortWrite (fieldA t.word) (fieldD t.word) = .ok i) ∨
    (fieldH t.word = false ∧ fieldR t.word = true ∧ decodePortRead (fieldA t.word) = .ok i) ∨
    (fieldH t.word = true ∧ fieldR t.word = false ∧ fieldD t.word = 0 ∧
      decodeHostCall (fieldA t.word) t.arg = .ok i) := by
  unfold decode at h
  split at h
  · next hH =>
    split at h
    · cases h
    · next hreserved =>
      simp only [Bool.or_eq_true, bne_iff_ne, not_or, Bool.not_eq_true, not_not] at hreserved
      exact .inr (.inr ⟨hH, hreserved.1, hreserved.2, h⟩)
  · next hH =>
    rw [Bool.not_eq_true] at hH
    split at h
    · next hR => exact .inr (.inl ⟨hH, hR, h⟩)
    · next hR => exact .inl ⟨hH, Bool.not_eq_true _ ▸ hR, h⟩

/-! #### Decoding an encoding -/

/-- Settles O2: each operation's transaction belongs to one of the three tables, and the table reads the operation back. -/
theorem decodeOfEncode : Obligations.DecodeOfEncode := by
  intro i
  cases i with
  | wrCtrl d | wrMask d | wrStatus d | wrOamAddr d | wrOamData d | wrScroll d | wrAddr d | wrData d | wrOamDma d =>
    exact decode_portWriteTx _ d
  | rdCtrl | rdMask | rdStatus | rdOamAddr | rdOamData | rdScroll | rdAddr | rdData => exact decode_portReadTx _
  | powerOn | reset | stepTo | stopAfterFrame | protectAcquire | protectRelease | fbRead => exact decode_hostCallTx _ _

/-! #### Rows of the opcode table -/

/-- The encoding of every operation lies in its row. -/
theorem encode_mem_row (i : Instr) : (encode i).word &&& rowMask i = rowMatch i := by
  cases i with
  | wrCtrl d => exact Laws.EncodedRow.wrCtrl d
  | rdCtrl => exact Laws.EncodedRow.rdCtrl
  | wrMask d => exact Laws.EncodedRow.wrMask d
  | rdMask => exact Laws.EncodedRow.rdMask
  | wrStatus d => exact Laws.EncodedRow.wrStatus d
  | rdStatus => exact Laws.EncodedRow.rdStatus
  | wrOamAddr d => exact Laws.EncodedRow.wrOamAddr d
  | rdOamAddr => exact Laws.EncodedRow.rdOamAddr
  | wrOamData d => exact Laws.EncodedRow.wrOamData d
  | rdOamData => exact Laws.EncodedRow.rdOamData
  | wrScroll d => exact Laws.EncodedRow.wrScroll d
  | rdScroll => exact Laws.EncodedRow.rdScroll
  | wrAddr d => exact Laws.EncodedRow.wrAddr d
  | rdAddr => exact Laws.EncodedRow.rdAddr
  | wrData d => exact Laws.EncodedRow.wrData d
  | rdData => exact Laws.EncodedRow.rdData
  | wrOamDma page => exact Laws.EncodedRow.wrOamDma page
  | powerOn => exact Laws.EncodedRow.powerOn
  | reset => exact Laws.EncodedRow.reset
  | stepTo n => exact Laws.EncodedRow.stepTo n
  | stopAfterFrame n => exact Laws.EncodedRow.stopAfterFrame n
  | protectAcquire => exact Laws.EncodedRow.protectAcquire
  | protectRelease token => exact Laws.EncodedRow.protectRelease token
  | fbRead x y => exact Laws.EncodedRow.fbRead x y

/-- The mask of the port rows drops field `D` and nothing else (R101). -/
theorem and_portMask (w : TxWord) : w &&& 0x3FFFF00 = txWord (fieldH w) (fieldR w) (fieldA w) 0 := by
  have hbit : ∀ j : Nat, j < 26 → (0x3FFFF00 : TxWord).getLsbD j = !decide (j < 8) := by decide
  apply BitVec.eq_of_getLsbD_eq
  intro j hj
  conv_lhs => rw [← txWord_fields w]
  rw [BitVec.getLsbD_and, hbit j hj]
  simp only [txWord, BitVec.getLsbD_append]
  by_cases h8 : j < 8 <;> simp [h8]

/-- The mask of the host rows keeps the whole word. -/
theorem and_hostMask (w : TxWord) : w &&& 0x3FFFFFF = w := BitVec.and_allOnes

theorem isPortWrite_of_isPortRead {i : Instr} (h : i.isPortRead = true) : i.isPortWrite = false := by
  cases i with
  | rdCtrl | rdMask | rdStatus | rdOamAddr | rdOamData | rdScroll | rdAddr | rdData => rfl
  | wrCtrl | wrMask | wrStatus | wrOamAddr | wrOamData | wrScroll | wrAddr | wrData | wrOamDma
  | powerOn | reset | stepTo | stopAfterFrame | protectAcquire | protectRelease | fbRead => cases h

theorem rowMask_of_isPortRead {i : Instr} (h : i.isPortRead = true) : rowMask i = 0x3FFFF00 := by
  cases i with
  | rdCtrl | rdMask | rdStatus | rdOamAddr | rdOamData | rdScroll | rdAddr | rdData => rfl
  | wrCtrl | wrMask | wrStatus | wrOamAddr | wrOamData | wrScroll | wrAddr | wrData | wrOamDma
  | powerOn | reset | stepTo | stopAfterFrame | protectAcquire | protectRelease | fbRead => cases h

/-- A word the decoder accepts agrees with the encoding of its operation under the operation's mask. -/
theorem word_and_rowMask {t : Transaction} {i : Instr} (h : decode t = .ok i) :
    t.word &&& rowMask i = (encode i).word &&& rowMask i := by
  have hw := txWord_fields t.word
  rcases decode_eq_ok h with ⟨hH, hR, hi⟩ | ⟨hH, hR, hi⟩ | ⟨hH, hR, hD, hi⟩
  · rw [hH, hR] at hw
    rw [encode_of_decodePortWrite hi, portWriteTx, hw]
  · rw [encode_of_decodePortRead hi, rowMask_of_isPortRead (isPortRead_of_decodePortRead hi), and_portMask, and_portMask, hH, hR]
    simp [portReadTx]
  · rw [hH, hR, hD] at hw
    rw [encode_of_decodeHostCall hi, hostCallTx, hw]

/-- Words that agree under the port mask agree in `H`, `R` and `A`. -/
theorem fields_of_and_portMask {w m : TxWord} (h : w &&& 0x3FFFF00 = m) :
    fieldH w = fieldH m ∧ fieldR w = fieldR m ∧ fieldA w = fieldA m := by
  subst h
  simp only [and_portMask, fieldH_txWord, fieldR_txWord, fieldA_txWord, and_self]

/-- A word in a port write's row decodes by the write column at the row's port. -/
theorem decode_of_writeRow {t : Transaction} {m : TxWord} (h : t.word &&& 0x3FFFF00 = m) (hH : fieldH m = false)
    (hR : fieldR m = false) : decode t = decodePortWrite (fieldA m) (fieldD t.word) := by
  obtain ⟨eH, eR, eA⟩ := fields_of_and_portMask h
  simp [decode, eH, eR, eA, hH, hR]

/-- A word in a port read's row decodes by the read column at the row's port. -/
theorem decode_of_readRow {t : Transaction} {m : TxWord} (h : t.word &&& 0x3FFFF00 = m) (hH : fieldH m = false)
    (hR : fieldR m = true) : decode t = decodePortRead (fieldA m) := by
  obtain ⟨eH, eR, eA⟩ := fields_of_and_portMask h
  simp [decode, eH, eR, eA, hH, hR]

/-- A word in a host call's row is that call's word. -/
theorem decode_of_hostRow {t : Transaction} {m : TxWord} (h : t.word &&& 0x3FFFFFF = m) (hH : fieldH m = true)
    (hR : fieldR m = false) (hD : fieldD m = 0) : decode t = decodeHostCall (fieldA m) t.arg := by
  rw [and_hostMask] at h
  simp [decode, h, hH, hR, hD]

/-- A word in an operation's row decodes to an operation of that row, the operand apart. -/
theorem exists_decode_of_row {t : Transaction} {i : Instr} (h : t.word &&& rowMask i = rowMatch i) :
    ∃ j, decode t = .ok j ∧ rowMatch j = rowMatch i := by
  cases i with
  | wrCtrl | wrMask | wrStatus | wrOamAddr | wrOamData | wrScroll | wrAddr | wrData | wrOamDma =>
    dsimp only [rowMask, rowMatch] at h
    exact ⟨_, decode_of_writeRow h rfl rfl, rfl⟩
  | rdCtrl | rdMask | rdStatus | rdOamAddr | rdOamData | rdScroll | rdAddr | rdData =>
    exact ⟨_, decode_of_readRow h rfl rfl, rfl⟩
  | powerOn | reset | stepTo | stopAfterFrame | protectAcquire | protectRelease | fbRead =>
    dsimp only [rowMask, rowMatch] at h
    exact ⟨_, decode_of_hostRow h rfl rfl rfl, rfl⟩

/-- Settles O3: an accepted word agrees with its operation's encoding under the mask, and the encoding lies in the row; a word in a row
has the row's `H`, `R` and `A`, which is all the decoder's choice reads. -/
theorem decodeAcceptsExactlyTheTableRows : Obligations.DecodeAcceptsExactlyTheTableRows :=
  fun _ => ⟨fun i h => (word_and_rowMask h).trans (encode_mem_row i), fun _ => exists_decode_of_row⟩

/-! #### Refusals -/

theorem decodePortWrite_ne_reserved (a : Addr) (d : Byte) : decodePortWrite a d ≠ .error .reservedHostEncoding := by
  unfold decodePortWrite
  intro h
  repeat' split at h
  all_goals cases h

theorem decodePortRead_ne_reserved (a : Addr) : decodePortRead a ≠ .error .reservedHostEncoding := by
  unfold decodePortRead
  intro h
  repeat' split at h
  all_goals cases h

theorem decodeHostCall_ne_notAPpuPort (a : Addr) (arg : HostArg) : decodeHostCall a arg ≠ .error .notAPpuPort := by
  unfold decodeHostCall
  intro h
  repeat' split at h
  all_goals cases h

/-- Settles O4: bit 25 tells the two refusals apart; a port word is refused by its column, and a host word by its reserved bits or by
the call table. -/
theorem decodeRefusesExactly : Obligations.DecodeRefusesExactly := by
  intro t
  change (_ ↔ fieldH t.word = false ∧ ¬ (_ ≤ (fieldA t.word).toNat ∧ (fieldA t.word).toNat ≤ _) ∧
      ¬ ((fieldA t.word).toNat = _ ∧ fieldR t.word = false)) ∧
    (_ ↔ fieldH t.word = true ∧ (fieldR t.word = true ∨ fieldD t.word ≠ 0 ∨ _ < (fieldA t.word).toNat))
  unfold decode
  cases hH : fieldH t.word with
  | false =>
    cases hR : fieldR t.word with
    | false => simp [decodePortWrite_eq_error, decodePortWrite_ne_reserved]
    | true => simp [decodePortRead_eq_error, decodePortRead_ne_reserved]
  | true =>
    cases hR : fieldR t.word with
    | true => simp
    | false =>
      by_cases hD : fieldD t.word = 0#8 <;>
        simp [hD, decodeHostCall_eq_error, decodeHostCall_ne_notAPpuPort]

/-! #### Operands -/

/-- A decoded port write carries the word's `D` (R100, R103). -/
theorem fieldD_encode_of_decode {t : Transaction} {i : Instr} (h : decode t = .ok i) (hw : i.isPortWrite = true) :
    fieldD (encode i).word = fieldD t.word := by
  rcases decode_eq_ok h with ⟨-, -, hi⟩ | ⟨-, -, hi⟩ | ⟨-, -, -, hi⟩
  · rw [encode_of_decodePortWrite hi, portWriteTx, fieldD_txWord]
  · rw [isPortWrite_of_isPortRead (isPortRead_of_decodePortRead hi)] at hw
    cases hw
  · rw [isPortWrite_of_decodeHostCall hi] at hw
    cases hw

/-- A decoded operation that is no port operation took its operands from the argument's slots (R102). -/
theorem mem_of_decode_host {t : Transaction} {i : Instr} (h : decode t = .ok i) (hw : i.isPortWrite = false)
    (hr : i.isPortRead = false) :
    i ∈ hostCallsOf t.arg := by
  rcases decode_eq_ok h with ⟨-, -, hi⟩ | ⟨-, -, hi⟩ | ⟨-, -, -, hi⟩
  · simp [isPortWrite_of_decodePortWrite hi] at hw
  · simp [isPortRead_of_decodePortRead hi] at hr
  · exact mem_of_decodeHostCall hi

theorem fieldD_toNat (w : TxWord) : (fieldD w).toNat = w.toNat % 256 := by
  simp [fieldD]

/-- Settles O5: a write's byte is the `D` of its encoding, hence of the word, and the host calls read their own slots. -/
theorem decodedOperandsAreTheWordsFields : Obligations.DecodedOperandsAreTheWordsFields := by
  intro t
  refine ⟨fun d h => ?_, fun n h => ?_, fun b h => ?_, fun x y h => ?_⟩
  · rw [← fieldD_toNat]
    congr 1
    rcases h with h | h | h | h | h | h | h | h | h <;>
      simpa [encode, portWriteTx] using fieldD_encode_of_decode h rfl
  · rcases h with h | h <;> simpa [hostCallsOf] using mem_of_decode_host h rfl rfl
  · simpa [hostCallsOf] using mem_of_decode_host h rfl rfl
  · simpa [hostCallsOf] using mem_of_decode_host h rfl rfl

/-- Settles O1: the decoder evaluates on each of the twenty words. -/
theorem sampleWordsDecode : Obligations.SampleWordsDecode := by
  unfold Obligations.SampleWordsDecode
  decide

end Sys2Proof

/-! ### The invariant and the assertions of a step (10_state.md R44, 60_exceptions.md R303, R304) -/

namespace Sys2Proof.Machine

/-- The invariant reads the counters, three fields of CTRL and the memories, and nothing else. -/
theorem Inv.congr {s t : State} (hinv : Inv s) (htime : t.time = s.time) (hnt : t.regs.ntBase = s.regs.ntBase)
    (hbg : t.regs.bgPatternBase = s.regs.bgPatternBase) (hvinc : t.regs.vinc = s.regs.vinc)
    (hmem : Memory.wf t = true) : Inv t where
  dot_lt := htime ▸ hinv.dot_lt
  scanline_lt := htime ▸ hinv.scanline_lt
  ready_iff := htime ▸ hinv.ready_iff
  ntBase_legal := hnt ▸ hinv.ntBase_legal
  bgPatternBase_legal := hbg ▸ hinv.bgPatternBase_legal
  vinc_legal := hvinc ▸ hinv.vinc_legal
  position := htime ▸ hinv.position
  memory := hmem

/-- An update that leaves the counters, the CTRL fields and the memories alone keeps the invariant. -/
theorem Inv.congr_mem {s t : State} (hinv : Inv s) (htime : t.time = s.time) (hnt : t.regs.ntBase = s.regs.ntBase)
    (hbg : t.regs.bgPatternBase = s.regs.bgPatternBase) (hvinc : t.regs.vinc = s.regs.vinc)
    (hvram : t.vram = s.vram) (hoam : t.oam = s.oam) (hfb : t.fb = s.fb) : Inv t :=
  hinv.congr htime hnt hbg hvinc (Memory.wf_congr hvram hoam hfb hinv.memory)

/-- The reset values of registers and counters meet the invariant, with any memories in canonical form (R43). -/
theorem inv_of_reset {s : State} (hregs : s.regs = Regs.reset) (htime : s.time = Timing.reset Config.params.startLine)
    (hmem : Memory.wf s = true) : Inv s where
  dot_lt := by rw [htime]; decide
  scanline_lt := by rw [htime]; decide
  ready_iff := by rw [htime]; decide
  ntBase_legal := by rw [hregs]; decide
  bgPatternBase_legal := by rw [hregs]; decide
  vinc_legal := by rw [hregs]; decide
  position := by rw [htime]; rfl
  memory := hmem

/-- Settles O58: both states hold the reset values and empty memories. -/
theorem resetStateMeetsTheInvariant : Obligations.ResetStateMeetsTheInvariant :=
  ⟨inv_of_reset rfl rfl rfl, inv_of_reset rfl rfl rfl⟩

theorem Inv.recordLatch {s : State} (hinv : Inv s) (v : Byte) : Inv (s.recordLatch v) := by
  apply hinv.congr_mem <;> simp

theorem Inv.answer {s : State} (hinv : Inv s) (r : Returned) : Inv (s.answer r) :=
  hinv.congr_mem rfl rfl rfl rfl rfl rfl rfl

theorem Inv.acceptCtrl {s : State} (hinv : Inv s) (d : Byte) : Inv (s.acceptCtrl d) :=
  { hinv with
    ntBase_legal := ctrlNtBase_legal d
    bgPatternBase_legal := ctrlBgPatternBase_legal d
    vinc_legal := ctrlVinc_legal d }

theorem Inv.acceptScroll {s : State} (hinv : Inv s) (d : Byte) : Inv (s.acceptScroll d) := by
  apply hinv.congr_mem <;> simp

theorem Inv.acceptAddr {s : State} (hinv : Inv s) (d : Byte) : Inv (s.acceptAddr d) := by
  apply hinv.congr_mem <;> simp

theorem Inv.advanceVaddr {s : State} (hinv : Inv s) : Inv s.advanceVaddr :=
  hinv.congr_mem rfl rfl rfl rfl rfl rfl rfl

theorem Inv.advanceOamAddr {s : State} (hinv : Inv s) : Inv s.advanceOamAddr :=
  hinv.congr_mem rfl rfl rfl rfl rfl rfl rfl

theorem Inv.vramWrite {s : State} (hinv : Inv s) {i : Nat} (hi : i < vramSize) (v : Byte) : Inv (s.vramWrite i v) :=
  hinv.congr rfl rfl rfl rfl (Memory.wf_vramWrite s i v hi hinv.memory)

theorem Inv.oamWrite {s : State} (hinv : Inv s) (a v : Byte) : Inv (s.oamWrite a.toNat v) :=
  hinv.congr rfl rfl rfl rfl (Memory.wf_oamWrite s a v hinv.memory)

/-- The copy of an OAMDMA write stays inside OAM (R190). -/
theorem Inv.dmaCopy {s : State} (hinv : Inv s) (p : Byte) : Inv (dmaCopy p s) := by
  obtain ⟨hvram, hoam, hfb⟩ := (Memory.wf_iff s).mp hinv.memory
  refine hinv.congr (by simp) (by simp) (by simp) (by simp) ((Memory.wf_iff _).mpr ⟨by simpa, ?_, by simpa⟩)
  rw [dmaCopy_oam]
  refine Cells.wf_writeAll _ _ _ (fun w hw => ?_) hoam
  obtain ⟨i, hi, rfl⟩ := List.mem_map.mp hw
  exact List.mem_range.mp hi

/-- A tick keeps the invariant: the counters advance together, `ready` is computed from the new `master`, and pixels stay in the
frame buffer. -/
theorem Inv.tick {s : State} (hinv : Inv s) : Inv (tick Config.params s) where
  dot_lt := by rw [tick_time]; exact nextTiming_dot_lt _ _ hinv.dot_lt
  scanline_lt := by rw [tick_time]; exact nextTiming_scanline_lt _ _ hinv.scanline_lt
  ready_iff := tick_ready_iff _ s
  ntBase_legal := by rw [tick_regs_ntBase]; exact hinv.ntBase_legal
  bgPatternBase_legal := by rw [tick_regs_bgPatternBase]; exact hinv.bgPatternBase_legal
  vinc_legal := by rw [tick_regs_vinc]; exact hinv.vinc_legal
  position := by
    rw [PositionLaw, tick_time, nextTiming_position, nextTiming_master, Nat.add_right_comm]
    exact congrArg (· + 1) hinv.position
  memory := wf_tick _ s hinv.memory

theorem Inv.ticks {s : State} (hinv : Inv s) (k : Nat) : Inv (ticks Config.params k s) :=
  ticks_induction _ Inv (fun _ => Inv.tick) k s hinv

theorem Inv.runTo {s : State} (hinv : Inv s) (n : Nat) : Inv (runTo Config.params n s) := hinv.ticks _

/-- Every operation that completes keeps the invariant: each of its updates does. -/
theorem exec_keeps_inv {s t : State} {i : Instr} (hinv : Inv s) (h : exec i s = .next t) : Inv t := by
  cases i with
  | wrCtrl d =>
    obtain ⟨-, rfl⟩ := execWrCtrl_next h
    split
    · exact ((hinv.recordLatch d).acceptCtrl d).answer _
    · exact (hinv.recordLatch d).answer _
  | wrMask d =>
    obtain ⟨-, rfl⟩ := execWrMask_next h
    split
    · exact (hinv.recordLatch d).congr_mem rfl rfl rfl rfl rfl rfl rfl
    · exact (hinv.recordLatch d).answer _
  | wrScroll d =>
    obtain ⟨-, rfl⟩ := execWrScroll_next h
    split
    · exact ((hinv.recordLatch d).acceptScroll d).answer _
    · exact (hinv.recordLatch d).answer _
  | wrStatus d =>
    obtain ⟨-, rfl⟩ := execWrStatus_next h
    exact (hinv.recordLatch d).answer _
  | wrOamAddr d =>
    obtain ⟨-, rfl⟩ := execWrOamAddr_next h
    exact (hinv.recordLatch d).congr_mem rfl rfl rfl rfl rfl rfl rfl
  | wrOamData d =>
    obtain ⟨-, rfl⟩ := execWrOamData_next h
    exact ((hinv.recordLatch d).oamWrite _ d).advanceOamAddr.answer _
  | wrAddr d =>
    obtain ⟨-, rfl⟩ := execWrAddr_next h
    exact ((hinv.recordLatch d).acceptAddr d).answer _
  | wrData d =>
    obtain ⟨-, rfl⟩ := execWrData_next h
    exact ((hinv.recordLatch d).vramWrite (dataLocation_lt _ _) d).advanceVaddr.answer _
  | wrOamDma p =>
    obtain ⟨-, -, rfl⟩ := execWrOamDma_next h
    exact ((hinv.recordLatch p).dmaCopy p).answer _
  | rdCtrl | rdMask | rdOamAddr | rdScroll | rdAddr =>
    obtain ⟨-, rfl⟩ := latchRead_eq_next h
    exact hinv.answer _
  | rdStatus =>
    obtain ⟨-, rfl⟩ := execRdStatus_next h
    split
    · exact hinv.answer _
    · exact hinv.congr_mem rfl rfl rfl rfl rfl rfl rfl
  | rdOamData =>
    obtain ⟨-, rfl⟩ := execRdOamData_next h
    exact (hinv.recordLatch _).answer _
  | rdData =>
    obtain ⟨-, rfl⟩ := execRdData_next h
    split
    · exact hinv.answer _
    · exact (hinv.recordLatch _).advanceVaddr.answer _
  | powerOn =>
    rw [execPowerOn_next h]
    exact inv_of_reset rfl rfl rfl
  | reset =>
    obtain ⟨-, rfl⟩ := execReset_next h
    exact inv_of_reset rfl rfl hinv.memory
  | stepTo n =>
    obtain ⟨-, rfl⟩ := execStepTo_next h
    exact (hinv.runTo n).answer _
  | stopAfterFrame n =>
    obtain ⟨-, rfl⟩ := execStopAfterFrame_next h
    exact hinv.congr_mem rfl rfl rfl rfl rfl rfl rfl
  | protectAcquire =>
    obtain ⟨-, rfl⟩ := execProtectAcquire_next h
    exact hinv.congr_mem rfl rfl rfl rfl rfl rfl rfl
  | protectRelease token =>
    obtain ⟨-, rfl⟩ := execProtectRelease_next h
    exact hinv.congr_mem rfl rfl rfl rfl rfl rfl rfl
  | fbRead x y =>
    obtain ⟨-, -, -, rfl⟩ := execFbRead_next h
    exact hinv.answer _

/-- Settles O59: a step waits, or takes the oldest transaction off the queue and performs its operation; both keep the invariant. -/
theorem stepKeepsTheInvariant : Obligations.StepKeepsTheInvariant := by
  intro s t hinv hstep
  obtain ⟨-, ⟨-, rfl⟩ | ⟨_, rest, i, -, -, hexec⟩⟩ := step_eq_next hstep
  · exact hinv
  · have htaken : Inv { s with pending := rest } := hinv.congr_mem rfl rfl rfl rfl rfl rfl rfl
    exact exec_keeps_inv htaken hexec

/-! #### What a step does with the oldest transaction -/

theorem step_of_assertions {s : State} {f : Fault} (h : assertions Config.params s = some f) : step s = .fault f := by
  simp [step, h]

theorem step_of_pending_nil {s : State} (ha : assertions Config.params s = none) (hq : s.pending = []) :
    step s = .next s := by
  simp [step, ha, State.takePending, hq, State.wait]

theorem step_of_decode_ok {s : State} {t : Transaction} {rest : List Transaction} {i : Instr}
    (ha : assertions Config.params s = none) (hq : s.pending = t :: rest) (hd : decode t = .ok i) :
    step s = exec i { s with pending := rest } := by
  simp [step, ha, State.takePending, hq, hd]

theorem step_of_decode_error {s : State} {t : Transaction} {rest : List Transaction} {r : DecodeRefusal}
    (ha : assertions Config.params s = none) (hq : s.pending = t :: rest) (hd : decode t = .error r) :
    step s = .refused (refusalOf r) := by
  simp [step, ha, State.takePending, hq, hd]

/-- Settles O6: the assertions pass, so the step goes on to the head of the queue. -/
theorem stepRunsTheDecodedOperation : Obligations.StepRunsTheDecodedOperation :=
  fun _ _ _ _ => step_of_decode_ok

/-- Settles O7: behind the assertions, an empty queue waits, and a word the decoder refuses ends in the refusal of its name. -/
theorem stepRefusesOrWaits : Obligations.StepRefusesOrWaits :=
  fun _ ha => ⟨step_of_pending_nil ha, fun _ _ hq => ⟨step_of_decode_error ha hq, step_of_decode_error ha hq⟩⟩

/-- No operation faults, so a step that passes its assertions does not. -/
theorem safeStep_of_assertions {s : State} (ha : assertions Config.params s = none) : SafeStep s := by
  intro f hf
  rcases step_eq_fault hf with h | ⟨_, _, i, -, -, hexec⟩
  · rw [ha] at h
    cases h
  · exact exec_ne_fault i _ f hexec

theorem assertions_eq_counterRange {P : Params} {s : State} (h : ¬ (s.time.dot < 341 ∧ s.time.scanline < 262)) :
    assertions P s = some .counterRange := by
  rw [← countersInRange_iff, Bool.not_eq_true] at h
  simp [assertions, h]

theorem assertions_of_countersInRange {P : Params} {s : State} (h : s.time.dot < 341 ∧ s.time.scanline < 262) :
    assertions P s = if s.registersCoherent P then none else some .invariant := by
  rw [← countersInRange_iff] at h
  cases hr : s.registersCoherent P <;> simp [assertions, h, hr]

/-- Settles O8: the first two clauses are the two assertions, and where both hold no operation faults either. -/
theorem brokenInvariantsAreFatal : Obligations.BrokenInvariantsAreFatal := by
  intro s
  refine ⟨fun h => step_of_assertions (assertions_eq_counterRange h), fun hdot hline hbroken => ?_,
    fun hdot hline hready hnt hbg hvinc hpos => ?_⟩
  · rw [← registersCoherent_iff] at hbroken
    apply step_of_assertions
    rw [assertions_of_countersInRange ⟨hdot, hline⟩, if_neg hbroken]
  · have hcoherent := (registersCoherent_iff _ s).mpr ⟨hready, hnt, hbg, hvinc, hpos⟩
    apply safeStep_of_assertions
    rw [assertions_of_countersInRange ⟨hdot, hline⟩, if_pos hcoherent]

/-- Settles O60: the invariant passes every assertion, and no operation faults. -/
theorem noFatalFaultIsReachable : Obligations.NoFatalFaultIsReachable :=
  fun _ hinv => safeStep_of_assertions (assertions_of_inv hinv)

end Sys2Proof.Machine

/-! ### The register ports, one operation at a time (40_register_ports.md R130-R147) -/

namespace Sys2Proof.Machine

/-! #### What the ports share -/

/-- The latch record as one update of the latch (R130). -/
theorem State.recordLatch_eq (s : State) (v : Byte) :
    s.recordLatch v = { s with regs := { s.regs with latch := if s.isProtected then s.regs.latch else v } } := by
  unfold State.recordLatch
  split <;> rfl

/-- On a powered block a port write completes (R130). -/
theorem portWrite_of_powered {s : State} (hp : s.powerOns ≠ 0) (d : Byte) (effect : State → State) :
    portWrite d effect s = .next ((effect (s.recordLatch d)).answer .nothing) :=
  ifPowered_of_ne s _ hp

/-- A write gated by `ready`, accepted (R131). -/
theorem gatedWrite_of_ready {s : State} (hp : s.powerOns ≠ 0) (hr : s.time.ready = true) (d : Byte) (effect : State → State) :
    portWrite d (fun s => s.whenReady effect) s = .next ((effect (s.recordLatch d)).answer .nothing) := by
  rw [portWrite_of_powered hp, State.whenReady_of_ready]
  simpa using hr

/-- A write gated by `ready`, ignored but for the latch (R131, R333). -/
theorem gatedWrite_of_not_ready {s : State} (hp : s.powerOns ≠ 0) (hr : s.time.ready = false) (d : Byte)
    (effect : State → State) :
    portWrite d (fun s => s.whenReady effect) s = .next ((s.recordLatch d).answer .nothing) := by
  rw [portWrite_of_powered hp, State.whenReady_of_not_ready]
  simpa using hr

/-! #### CTRL, MASK, STATUS -/

/-- `0x2000 + 0x400 * D[1:0]` as arithmetic (R106). -/
theorem ctrlNtBase_eq (d : Byte) : ctrlNtBase d = BitVec.ofNat 16 (0x2000 + 0x400 * (d.toNat % 4)) := by
  have hlow : ((d &&& 0x03).setWidth 16).toNat = d.toNat % 4 := by
    rw [BitVec.toNat_setWidth_of_le (by decide), BitVec.toNat_and]
    exact Nat.and_two_pow_sub_one_eq_mod d.toNat 2
  apply BitVec.eq_of_toNat_eq
  rw [ctrlNtBase, BitVec.toNat_add, BitVec.toNat_mul, hlow]
  simp

/-- `(D & 0x10) << 8` is bit 4 of `D` at bit 12 (R106). -/
theorem ctrlBgPatternBase_eq (d : Byte) : ctrlBgPatternBase d = if d.getLsbD 4 then 0x1000 else 0x0000 := by
  revert d
  decide

/-- Settles O9: the gate is open, and the two masked fields are `ctrlNtBase_eq` and `ctrlBgPatternBase_eq`. -/
theorem wrCtrlAccepted : Obligations.WrCtrlAccepted := by
  intro s d hp hr
  refine (gatedWrite_of_ready hp hr d fun s => s.acceptCtrl d).trans ?_
  rw [State.recordLatch_eq, ← ctrlNtBase_eq, ← ctrlBgPatternBase_eq]
  rfl

/-- Settles O10: the gate is open, and the fields are bits of the byte. -/
theorem wrMaskAccepted : Obligations.WrMaskAccepted := by
  intro s d hp hr
  refine (gatedWrite_of_ready hp hr d fun s => s.acceptMask d).trans ?_
  rw [State.recordLatch_eq]
  rfl

/-- Settles O11: the three writes are the gated ones. -/
theorem gatedWritesBeforeReadyOnlyRecordTheLatch : Obligations.GatedWritesBeforeReadyOnlyRecordTheLatch := by
  intro s d i hp hr hi
  have hignored : exec i s = .next ((s.recordLatch d).answer .nothing) := by
    rcases hi with rfl | rfl | rfl <;> exact gatedWrite_of_not_ready hp hr d _
  rw [hignored, State.recordLatch_eq]
  rfl

/-- Settles O12: the port's effect is the identity, so the latch record is all there is. -/
theorem wrStatusOnlyRecordsTheLatch : Obligations.WrStatusOnlyRecordsTheLatch := by
  intro s d hp
  refine (portWrite_of_powered hp d fun s => s).trans ?_
  rw [State.recordLatch_eq]
  rfl

/-- The low five bits of a STATUS byte are the latch's: the three flags stand above them (R108). -/
theorem statusByte_and_0x1F (r : Regs) : statusByte r &&& 0x1F = r.latch &&& 0x1F := by
  have hflags : ∀ b : Bool, (BitVec.ofBool b).setWidth 8 <<< 7 &&& (0x1F : Byte) = 0 ∧
      (BitVec.ofBool b).setWidth 8 <<< 6 &&& (0x1F : Byte) = 0 ∧ (BitVec.ofBool b).setWidth 8 <<< 5 &&& (0x1F : Byte) = 0 := by
    decide
  simp only [statusByte, BitVec.and_or_distrib_right, BitVec.and_assoc, BitVec.and_self]
  rw [(hflags _).1, (hflags _).2.1, (hflags _).2.2]
  simp

/-- Settles O13: the value is `statusByte`. -/
theorem rdStatusReturnsFlagsAndClearsVblank : Obligations.RdStatusReturnsFlagsAndClearsVblank := by
  intro s hp
  have hmod : ∀ v : Byte, (v &&& 0x1F).toNat = v.toNat % 32 := fun v => by
    rw [BitVec.toNat_and]
    exact Nat.and_two_pow_sub_one_eq_mod v.toNat 5
  refine ⟨statusByte s.regs, by simp [statusByte], by simp [statusByte], by simp [statusByte], ?_, ?_⟩
  · rw [← hmod, statusByte_and_0x1F, hmod]
  · refine (ifPowered_of_ne s _ hp).trans ?_
    split <;> rfl

/-! #### OAMADDR, OAMDATA, OAMDMA -/

/-- Settles O14: the effect follows the latch record and is under no gate. -/
theorem wrOamAddrSetsTheAddress : Obligations.WrOamAddrSetsTheAddress := by
  intro s d hp
  refine (portWrite_of_powered hp d fun s => { s with regs.oamAddr := d }).trans ?_
  rw [State.recordLatch_eq]
  rfl

/-- An OAMDATA write on a powered block (R140). -/
theorem exec_wrOamData_of_powered {s : State} (hp : s.powerOns ≠ 0) (d : Byte) :
    exec (.wrOamData d) s =
      .next ((((s.recordLatch d).oamWrite s.regs.oamAddr.toNat d).advanceOamAddr).answer .nothing) := by
  refine (ifPowered_of_ne s _ hp).trans ?_
  simp

/-- What an OAMDATA write leaves in OAM: its byte at `oam_addr`, every other byte as it was. -/
theorem oamRead_of_wrOamData {s t : State} {d : Byte} (h : exec (.wrOamData d) s = .next t) (a : Nat) :
    t.oamRead a = if a = s.regs.oamAddr.toNat then d else s.oamRead a := by
  obtain ⟨-, rfl⟩ := execWrOamData_next h
  rw [← State.oamRead_oamWrite]
  exact State.oamRead_congr (by simp) (by simp) a

/-- Settles O15: `oamRead_of_wrOamData` for OAM, and the write touches no other memory. -/
theorem wrOamDataStoresAndAdvances : Obligations.WrOamDataStoresAndAdvances := by
  intro s d hp
  have h := exec_wrOamData_of_powered hp d
  refine ⟨_, h, ?_, fun a ha => ?_, fun a => ?_, fun x y => ?_, ?_⟩
  · rw [oamRead_of_wrOamData h, if_pos rfl]
  · rw [oamRead_of_wrOamData h, if_neg ha]
  · exact State.vramRead_congr (by simp) (by simp) a
  · exact State.fbPixel_congr (by simp) (by simp) x y
  · have hstep : BitVec.ofNat 8 ((s.regs.oamAddr.toNat + 1) % 256) = s.regs.oamAddr + 1 :=
      BitVec.eq_of_toNat_eq (by simp)
    rw [hstep, State.recordLatch_eq]
    rfl

/-- Settles O16: the latch record is the read's only update. -/
theorem rdOamDataReadsWithoutAdvancing : Obligations.RdOamDataReadsWithoutAdvancing := by
  intro s hp
  refine (ifPowered_of_ne s _ hp).trans ?_
  rw [State.recordLatch_eq]
  rfl

/-- The refused pages are 0x20..0x3F (R194). -/
theorem mem_reentrantPages (p : Byte) : p ∈ Config.params.reentrantPages ↔ 0x20 ≤ p.toNat ∧ p.toNat ≤ 0x3F := by
  change p ∈ (List.range 0x20).map (fun i => BitVec.ofNat 8 (0x20 + i)) ↔ _
  simp only [List.mem_map, List.mem_range]
  constructor
  · rintro ⟨i, hi, rfl⟩
    simp only [BitVec.toNat_ofNat]
    omega
  · rintro ⟨hlo, hhi⟩
    exact ⟨p.toNat - 0x20, by omega, BitVec.eq_of_toNat_eq (by simp; omega)⟩

/-- An OAMDMA write from a page that is not refused (R190). -/
theorem exec_wrOamDma_of_not_mem {s : State} (hp : s.powerOns ≠ 0) {p : Byte} (hpage : p ∉ Config.params.reentrantPages) :
    exec (.wrOamDma p) s = .next ((dmaCopy p (s.recordLatch p)).answer .nothing) := by
  refine (ifPowered_of_ne s _ hp).trans ?_
  rw [if_neg hpage, portWrite_of_powered hp]

/-- The addresses of a copy are 0..255, each once (R191). -/
theorem map_fst_dmaWrites (k : Nat) (p : Byte) : (dmaWrites k p).map Prod.fst = List.range 256 := by
  simp [dmaWrites, Function.comp_def]

/-- What a copy leaves in OAM: the answers of the bus collaborator, in order. -/
theorem oamRead_dmaCopy (p : Byte) (s : State) {i : Nat} (hi : i < 256) :
    (dmaCopy p s).oamRead i = Config.extRead (s.draws + i) (dmaSource p i) := by
  have hmem : (i, Config.extRead (s.draws + i) (dmaSource p i)) ∈ dmaWrites s.draws p :=
    List.mem_map.mpr ⟨i, List.mem_range.mpr hi, rfl⟩
  have hnodup : ((dmaWrites s.draws p).map Prod.fst).Nodup := by
    rw [map_fst_dmaWrites]
    exact List.nodup_range
  rw [State.oamRead, dmaCopy_oam, Cells.find_writeAll_of_mem _ _ _ _ hnodup hmem, Option.getD_some]

@[simp] theorem State.oamRead_answer (s : State) (r : Returned) (i : Nat) : (s.answer r).oamRead i = s.oamRead i := rfl

/-- A copy writes nothing past OAM. -/
theorem oamRead_dmaCopy_of_le (p : Byte) (s : State) {i : Nat} (hi : 256 ≤ i) :
    (dmaCopy p s).oamRead i = s.oamRead i := by
  have hfresh : ∀ w ∈ dmaWrites s.draws p, w.1 ≠ i := by
    intro w hw
    have hlt : w.1 ∈ List.range 256 := map_fst_dmaWrites s.draws p ▸ List.mem_map_of_mem hw
    have := List.mem_range.mp hlt
    omega
  rw [State.oamRead, dmaCopy_oam, Cells.find_writeAll_of_not_mem _ _ _ hfresh, dmaCopy_powerOns, State.oamRead]

/-- Settles O18: the pages of R194 are the refused list, and elsewhere the copy is 256 writes at distinct addresses. -/
theorem oamDmaCopiesThePageOrRefuses : Obligations.OamDmaCopiesThePageOrRefuses := by
  intro s p hp
  rw [← mem_reentrantPages]
  refine ⟨fun hpage => ?_, fun hpage => ?_⟩
  · refine ⟨_, exec_wrOamDma_of_not_mem hp hpage, fun i hi => ?_, fun i hi => ?_, fun a => ?_, fun x y => ?_, ?_⟩
    · rw [State.oamRead_answer, oamRead_dmaCopy p _ hi, State.recordLatch_draws, dmaSource]
    · rw [State.oamRead_answer, oamRead_dmaCopy_of_le p _ hi]
      exact State.oamRead_congr (by simp) (by simp) i
    · exact State.vramRead_congr (by simp) (by simp) a
    · exact State.fbPixel_congr (by simp) (by simp) x y
    · simp only [State.recordLatch_eq, dmaCopy, State.answer]
  · exact (ifPowered_of_ne s _ hp).trans (if_pos hpage)

/-! #### SCROLL, ADDR, DATA -/

/-- Settles O19: the gate is open, and the toggle chooses between the two scroll registers. -/
theorem wrScrollAccepted : Obligations.WrScrollAccepted := by
  intro s d hp hr
  refine (gatedWrite_of_ready hp hr d fun s => s.acceptScroll d).trans ?_
  rw [State.recordLatch_eq]
  cases h : s.regs.toggle <;> simp [State.acceptScroll, State.answer, h]

/-- Settles O20: the toggle chooses the byte, and the two assemblies are `withHighByte_eq` and `withLowByte_eq`. -/
theorem wrAddrSetsOneByte : Obligations.WrAddrSetsOneByte := by
  intro s d hp
  refine (portWrite_of_powered hp d fun s => s.acceptAddr d).trans ?_
  rw [State.recordLatch_eq]
  cases h : s.regs.toggle <;> simp [State.acceptAddr, State.answer, h, withLowByte_eq, withHighByte_eq]

/-- A DATA write on a powered block (R146). -/
theorem exec_wrData_of_powered {s : State} (hp : s.powerOns ≠ 0) (d : Byte) :
    exec (.wrData d) s = .next ((((s.recordLatch d).vramWrite
      (dataLocation Config.params.paletteMirror s.regs.vaddr).toNat d).advanceVaddr).answer .nothing) := by
  refine (ifPowered_of_ne s _ hp).trans ?_
  rw [withDataIndex_eq]

/-- What a DATA write leaves in VRAM: its byte at the location `vaddr` selects, every other byte as it was. -/
theorem vramRead_of_wrData {s t : State} {d : Byte} (h : exec (.wrData d) s = .next t) (a : Nat) :
    t.vramRead a =
      if a = (dataLocation Config.params.paletteMirror s.regs.vaddr).toNat then d else s.vramRead a := by
  obtain ⟨-, rfl⟩ := execWrData_next h
  rw [← State.vramRead_vramWrite]
  exact State.vramRead_congr (by simp) (by simp) a

/-- The advance of `vaddr` as arithmetic mod 2^16. -/
theorem ofNat_add_toNat (a b : Addr) : BitVec.ofNat 16 (a.toNat + b.toNat) = a + b :=
  BitVec.eq_of_toNat_eq (by simp)

/-- Settles O21: `Translate` keeps the location inside VRAM, so the check passes and `vramRead_of_wrData` gives every byte. -/
theorem wrDataStoresAndAdvances : Obligations.WrDataStoresAndAdvances := by
  intro s d hp
  have h := exec_wrData_of_powered hp d
  refine ⟨_, h, dataLocation_lt _ _, ?_, fun a ha => ?_, fun a => ?_, fun x y => ?_, ?_⟩
  · rw [vramRead_of_wrData h, if_pos rfl]
  · rw [vramRead_of_wrData h, if_neg ha]
  · exact State.oamRead_congr (by simp) (by simp) a
  · exact State.fbPixel_congr (by simp) (by simp) x y
  · rw [ofNat_add_toNat, State.recordLatch_eq]
    rfl

/-- Settles O22: the same location as a write's, so the check passes; the mode decides whether anything is written. -/
theorem rdDataReturnsTheByteNow : Obligations.RdDataReturnsTheByteNow := by
  intro s hp
  refine (ifPowered_of_ne s _ hp).trans ?_
  rw [withDataIndex_eq, ofNat_add_toNat]
  cases h : s.isProtected <;> simp [State.recordLatch_eq, State.advanceVaddr, State.answer, h]

/-! #### Reads -/

/-- Settles O26: the five meanings are one, `latchRead`. -/
theorem writeOnlyPortReadsReturnTheLatch : Obligations.WriteOnlyPortReadsReturnTheLatch := by
  intro s i hp hi
  rcases hi with rfl | rfl | rfl | rfl | rfl <;> exact latchRead_of_powered s hp

/-- Settles O27 by the case analysis of port reads in protected mode. -/
theorem protectedReadsChangeNothing : Obligations.ProtectedReadsChangeNothing :=
  exec_portRead_of_isProtected

/-- Settles O28: a read changes nothing at all, and a write's record is the only way it reaches the latch. -/
theorem protectedPortOperationsKeepTheLatch : Obligations.ProtectedPortOperationsKeepTheLatch := by
  intro s t i hprot hport h
  cases i with
  | wrCtrl d => obtain ⟨-, rfl⟩ := execWrCtrl_next h; split <;> simp [hprot]
  | wrMask d => obtain ⟨-, rfl⟩ := execWrMask_next h; split <;> simp [hprot]
  | wrScroll d => obtain ⟨-, rfl⟩ := execWrScroll_next h; split <;> simp [hprot]
  | wrStatus d => obtain ⟨-, rfl⟩ := execWrStatus_next h; simp [hprot]
  | wrOamAddr d => obtain ⟨-, rfl⟩ := execWrOamAddr_next h; simp [hprot]
  | wrOamData d => obtain ⟨-, rfl⟩ := execWrOamData_next h; simp [hprot]
  | wrAddr d => obtain ⟨-, rfl⟩ := execWrAddr_next h; simp [hprot]
  | wrData d => obtain ⟨-, rfl⟩ := execWrData_next h; simp [hprot]
  | wrOamDma page => obtain ⟨-, -, rfl⟩ := execWrOamDma_next h; simp [hprot]
  | rdCtrl | rdMask | rdOamAddr | rdScroll | rdAddr => obtain ⟨-, rfl⟩ := latchRead_eq_next h; rfl
  | rdStatus => obtain ⟨-, rfl⟩ := execRdStatus_next h; simp [hprot]
  | rdOamData => obtain ⟨-, rfl⟩ := execRdOamData_next h; simp [hprot]
  | rdData => obtain ⟨-, rfl⟩ := execRdData_next h; simp [hprot]
  | powerOn | reset | stepTo | stopAfterFrame | protectAcquire | protectRelease | fbRead =>
    simp [Instr.isPortRead, Instr.isPortWrite] at hport

end Sys2Proof.Machine

/-! ### The host calls, and which operations complete (42_host_calls.md R210-R216, 60_exceptions.md R305) -/

namespace Sys2Proof.Machine

/-- Settles O33: POWER_ON's meaning, evaluated. -/
theorem powerOnGivesTheResetState : Obligations.PowerOnGivesTheResetState := fun _ => rfl

/-- Settles O34: RESET replaces the registers and the counters whole and touches nothing else. -/
theorem resetClearsRegistersKeepsTheRest : Obligations.ResetClearsRegistersKeepsTheRest :=
  fun s hp => ifPowered_of_ne s _ hp

/-- Settles O35: the meaning of every operation but POWER_ON is under `ifPowered`. -/
theorem operationsBeforePowerOnRefused : Obligations.OperationsBeforePowerOnRefused := by
  intro s i hp hpower
  cases i with
  | powerOn => exact absurd rfl hpower
  | wrCtrl | wrMask | wrStatus | wrOamAddr | wrOamData | wrScroll | wrAddr | wrData | wrOamDma
  | rdCtrl | rdMask | rdStatus | rdOamAddr | rdOamData | rdScroll | rdAddr | rdData
  | reset | stepTo | stopAfterFrame | protectAcquire | protectRelease | fbRead => exact ifPowered_of_zero s _ hp

/-- Settles O37: the ceiling is the call's one update. -/
theorem stopAfterFrameSetsTheCeiling : Obligations.StopAfterFrameSetsTheCeiling :=
  fun s _ hp => ifPowered_of_ne s _ hp

/-- PROTECT_ACQUIRE on a powered block (R214). -/
theorem exec_protectAcquire_of_powered {s : State} (hp : s.powerOns ≠ 0) :
    exec .protectAcquire s = .next ({ s with isProtected := true }.answer (.token s.isProtected)) :=
  ifPowered_of_ne s _ hp

/-- Settles O39: the mode is the call's one update. -/
theorem protectReleaseRestoresTheToken : Obligations.ProtectReleaseRestoresTheToken :=
  fun s _ hp => ifPowered_of_ne s _ hp

/-- STEP_TO on a powered block (R212). -/
theorem exec_stepTo_of_powered {s : State} (hp : s.powerOns ≠ 0) (n : Nat) :
    exec (.stepTo n) s = .next ((runTo Config.params n s).answer .nothing) :=
  ifPowered_of_ne s _ hp

/-- Settles O41: the two clauses are the two branches of the coordinate check. -/
theorem fbReadReturnsThePixelOrRefuses : Obligations.FbReadReturnsThePixelOrRefuses := by
  intro s x y hp
  refine ⟨fun h => ?_, fun h => ?_⟩
  · exact (ifPowered_of_ne s _ hp).trans (if_neg (by omega))
  · exact (ifPowered_of_ne s _ hp).trans (if_pos h)

/-- Settles O36: OAMDMA and FB_READ are the two meanings with a refusal behind the power check, and the premises rule both out. -/
theorem poweredOperationsComplete : Obligations.PoweredOperationsComplete := by
  intro s i hp hpage hwf
  cases i with
  | wrOamDma p =>
    have hp' : p ∉ Config.params.reentrantPages := (mem_reentrantPages p).not.mpr (hpage p rfl)
    exact ⟨_, exec_wrOamDma_of_not_mem hp hp'⟩
  | fbRead x y =>
    simp only [Instr.wellFormed, Bool.and_eq_true, decide_eq_true_eq] at hwf
    exact ⟨_, (fbReadReturnsThePixelOrRefuses s x y hp).1 hwf⟩
  | wrData d => exact ⟨_, exec_wrData_of_powered hp d⟩
  | rdData => exact ⟨_, rdDataReturnsTheByteNow s hp⟩
  | powerOn => exact ⟨_, rfl⟩
  | wrCtrl | wrMask | wrStatus | wrOamAddr | wrOamData | wrScroll | wrAddr
  | rdCtrl | rdMask | rdStatus | rdOamAddr | rdOamData | rdScroll | rdAddr
  | reset | stepTo | stopAfterFrame | protectAcquire | protectRelease => exact ⟨_, ifPowered_of_ne s _ hp⟩

end Sys2Proof.Machine

/-! ### Sequences of operations (95_test_vectors.md S3, S6; 40_register_ports.md R148, R149; 42_host_calls.md R217, R218) -/

namespace Sys2Proof.Machine

theorem execAll_cons_of_next {i : Instr} {s u : State} (h : exec i s = .next u) (is : List Instr) :
    execAll (i :: is) s = execAll is u := by
  rw [execAll, h]

theorem execAll_append_of_next {is : List Instr} {s u : State} (h : execAll is s = .next u) (js : List Instr) :
    execAll (is ++ js) s = execAll js u := by
  induction is generalizing s with
  | nil =>
    cases h
    rfl
  | cons i is ih =>
    obtain ⟨v, hi, his⟩ := execAll_cons_next h
    rw [List.cons_append, execAll_cons_of_next hi, ih his]

/-! #### OAMDATA writes -/

/-- The index of OAM `k` places on from `a`, wrapping at 256 (R140). -/
def oamIndex (a : Byte) (k : Nat) : Nat := (a.toNat + k) % 256

theorem oamIndex_zero (a : Byte) : oamIndex a 0 = a.toNat := by
  unfold oamIndex
  omega

theorem oamIndex_succ (a : Byte) (k : Nat) : oamIndex (a + 1) k = oamIndex a (k + 1) := by
  unfold oamIndex
  rw [BitVec.toNat_add, show (1 : Byte).toNat = 1 from rfl]
  omega

/-- Within one turn around OAM, places on from the start differ from it. -/
theorem oamIndex_succ_ne (a : Byte) {k : Nat} (hk : k + 1 < 256) : oamIndex a (k + 1) ≠ a.toNat := by
  unfold oamIndex
  omega

/-- OAMDATA writes on a powered block complete and advance `oam_addr` by their number; up to 256 of them land one place after the
other, and the places they do not reach keep their bytes. -/
theorem execAll_wrOamData (ds : List Byte) {s : State} (hp : s.powerOns ≠ 0) : ∃ t : State,
    execAll (ds.map Instr.wrOamData) s = .next t ∧
    t.regs.oamAddr = s.regs.oamAddr + BitVec.ofNat 8 ds.length ∧
    (ds.length ≤ 256 → ∀ (k : Nat) (d : Byte), ds[k]? = some d → t.oamRead (oamIndex s.regs.oamAddr k) = d) ∧
    (∀ a, (∀ k < ds.length, oamIndex s.regs.oamAddr k ≠ a) → t.oamRead a = s.oamRead a) := by
  induction ds generalizing s with
  | nil => exact ⟨s, rfl, by simp, by simp, fun _ _ => rfl⟩
  | cons d ds ih =>
    obtain ⟨u, hu⟩ : ∃ u, exec (.wrOamData d) s = .next u := ⟨_, exec_wrOamData_of_powered hp d⟩
    have haddr : u.regs.oamAddr = s.regs.oamAddr + 1 := by
      obtain ⟨-, rfl⟩ := execWrOamData_next hu
      simp
    have hpu : u.powerOns ≠ 0 := by
      obtain ⟨-, rfl⟩ := execWrOamData_next hu
      simpa
    obtain ⟨t, ht, hend, hland, hkeep⟩ := ih hpu
    simp only [haddr, oamIndex_succ] at hend hland hkeep
    refine ⟨t, ?_, ?_, fun hlen k e hk => ?_, fun a ha => ?_⟩
    · exact (execAll_cons_of_next hu _).trans ht
    · rw [hend, List.length_cons, BitVec.add_assoc]
      congr 1
      apply BitVec.eq_of_toNat_eq
      simp [Nat.add_comm]
    · rw [List.length_cons] at hlen
      cases k with
      | zero =>
        obtain rfl : d = e := by simpa using hk
        rw [oamIndex_zero, hkeep _ (fun k hk => oamIndex_succ_ne _ (by omega)), oamRead_of_wrOamData hu, if_pos rfl]
      | succ k => exact hland (by omega) k e (by simpa using hk)
    · have hne : a ≠ s.regs.oamAddr.toNat := fun e => ha 0 (by simp) (e ▸ oamIndex_zero _)
      rw [hkeep a (fun k hk => ha (k + 1) (by simpa using hk)), oamRead_of_wrOamData hu, if_neg hne]

/-- Settles O17: 256 advances wrap back, and within the turn no write meets an earlier one's place. -/
theorem oamDataWritesCycleWithPeriod256 : Obligations.OamDataWritesCycleWithPeriod256 := by
  intro s ds hp hlen
  obtain ⟨t, ht, hend, hland, -⟩ := execAll_wrOamData ds hp
  refine ⟨t, ht, ?_, hland hlen.le⟩
  rw [hend, hlen]
  simp

/-! #### ADDR, SCROLL, DATA -/

/-- Settles O24: each write of the sequence flips the toggle and leaves `ready` alone. -/
theorem toggleCountsWritesModTwo : Obligations.ToggleCountsWritesModTwo := by
  intro s t is hr his h
  induction is generalizing s with
  | nil =>
    cases h
    simp
  | cons i is ih =>
    obtain ⟨u, hi, hrest⟩ := execAll_cons_next h
    have hflip : u.regs.toggle = (!s.regs.toggle) ∧ u.time.ready = true := by
      obtain ⟨d, rfl | rfl⟩ := his i List.mem_cons_self
      · obtain ⟨-, rfl⟩ := execWrAddr_next hi
        simp [hr]
      · obtain ⟨-, rfl⟩ := execWrScroll_next hi
        simp [hr]
    obtain ⟨htoggle, hready⟩ := hflip
    have htail := ih u hready (fun j hj => his j (List.mem_cons_of_mem _ hj)) hrest
    rw [htoggle, Bool.eq_not] at htail
    rw [← not_iff_not, ← ne_eq, htail, List.length_cons]
    omega

/-- One DATA access in normal mode: `vaddr` advances by `vinc`, which stays, and the mode stays (R146, R147). -/
theorem exec_dataAccess {s t : State} {i : Instr} (hprot : s.isProtected = false) (hi : i = .rdData ∨ ∃ d, i = .wrData d)
    (h : exec i s = .next t) :
    t.regs.vaddr = s.regs.vaddr + s.regs.vinc ∧ t.regs.vinc = s.regs.vinc ∧ t.isProtected = false := by
  obtain rfl | ⟨d, rfl⟩ := hi
  · obtain ⟨-, rfl⟩ := execRdData_next h
    simp [hprot]
  · obtain ⟨-, rfl⟩ := execWrData_next h
    simp [hprot]

/-- Settles O25: `exec_dataAccess`, once per access. -/
theorem videoAddressAdvancesByVincPerAccess : Obligations.VideoAddressAdvancesByVincPerAccess := by
  intro s t is hprot his h
  induction is generalizing s with
  | nil =>
    cases h
    have := t.regs.vaddr.isLt
    simp only [List.length_nil, Nat.zero_mul, Nat.add_zero]
    omega
  | cons i is ih =>
    obtain ⟨u, hi, hrest⟩ := execAll_cons_next h
    obtain ⟨hvaddr, hvinc, hmode⟩ := exec_dataAccess hprot (his i List.mem_cons_self) hi
    rw [ih u hmode (fun j hj => his j (List.mem_cons_of_mem _ hj)) hrest, hvaddr, hvinc, BitVec.toNat_add,
      List.length_cons, Nat.add_one_mul]
    omega

/-- An ADDR write on a powered block (R144). -/
theorem exec_wrAddr_of_powered {s : State} (hp : s.powerOns ≠ 0) (d : Byte) :
    exec (.wrAddr d) s = .next (((s.recordLatch d).acceptAddr d).answer .nothing) :=
  ifPowered_of_ne s _ hp

/-- The address two ADDR writes form from toggle 0, whatever `vaddr` held (R144). -/
theorem withLowByte_withHighByte (a : Addr) (hi lo : Byte) :
    withLowByte (withHighByte a hi) lo = BitVec.ofNat 16 (256 * hi.toNat + lo.toNat) := by
  have h1 := hi.isLt
  rw [withLowByte_eq, withHighByte_eq]
  congr 1
  simp only [BitVec.toNat_ofNat]
  omega

/-- The 14-bit mask as arithmetic (R67). -/
theorem ofNat_and_0x3FFF (n : Nat) : BitVec.ofNat 16 n &&& 0x3FFF = BitVec.ofNat 16 (n % 0x4000) := by
  apply BitVec.eq_of_toNat_eq
  rw [masked_toNat]
  simp only [BitVec.toNat_ofNat]
  omega

/-- Two ADDR writes from toggle 0 leave the address they form, and the toggle back at 0 (R144). -/
theorem execAll_addrPair {s : State} (hp : s.powerOns ≠ 0) (htoggle : s.regs.toggle = false) (hi lo : Byte) : ∃ u,
    execAll [.wrAddr hi, .wrAddr lo] s = .next u ∧ u.powerOns ≠ 0 ∧ u.regs.toggle = false ∧
    u.regs.vaddr = BitVec.ofNat 16 (256 * hi.toNat + lo.toNat) ∧ u.regs.vinc = s.regs.vinc := by
  have hfirst := exec_wrAddr_of_powered hp hi
  have hsecond := exec_wrAddr_of_powered (s := ((s.recordLatch hi).acceptAddr hi).answer .nothing) (by simpa) lo
  refine ⟨_, (execAll_cons_of_next hfirst _).trans (execAll_cons_of_next hsecond _), ?_, ?_, ?_, ?_⟩
  · simpa
  · simp [htoggle]
  · simp [htoggle, withLowByte_withHighByte]
  · simp

/-- Settles O23: the two writes form the address with the toggle back at 0, and the DATA write stores at its location. -/
theorem addressPairThenDataLandsThere : Obligations.AddressPairThenDataLandsThere := by
  intro s hi lo v hp htoggle
  obtain ⟨u, hpair, hpu, hut, hvaddr, hvinc⟩ := execAll_addrPair hp htoggle hi lo
  have hdata := exec_wrData_of_powered hpu v
  refine ⟨_, (execAll_append_of_next hpair [.wrData v]).trans (execAll_cons_of_next hdata []), ?_, ?_, ?_⟩
  · rw [← ofNat_and_0x3FFF, ← hvaddr]
    exact (vramRead_of_wrData hdata _).trans (if_pos rfl)
  · simp [hvaddr, hvinc, BitVec.ofNat_add]
  · simpa

/-! #### Guarded reads -/

/-- Port reads in protected mode, one after another, leave the state alone but for the byte returned last. -/
theorem execAll_portReads_of_isProtected (is : List Instr) {s : State} (hp : s.powerOns ≠ 0) (hprot : s.isProtected = true)
    (his : ∀ i ∈ is, i.isPortRead = true) : ∃ r, execAll is s = .next (s.answer r) := by
  induction is generalizing s with
  | nil => exact ⟨s.returned, rfl⟩
  | cons i is ih =>
    obtain ⟨v, hv⟩ := exec_portRead_of_isProtected s i hp hprot (his i List.mem_cons_self)
    obtain ⟨r, hr⟩ := ih (s := s.answer (.byte v)) hp hprot (fun j hj => his j (List.mem_cons_of_mem _ hj))
    exact ⟨r, (execAll_cons_of_next hv is).trans hr⟩

/-- Settles O40: the acquire changes only the mode, the reads nothing, and the release puts the mode back. -/
theorem guardedReadsLeaveNoTrace : Obligations.GuardedReadsLeaveNoTrace := by
  intro s is hp his
  obtain ⟨r, hreads⟩ := execAll_portReads_of_isProtected is
    (s := { s with isProtected := true }.answer (.token s.isProtected)) hp rfl his
  rw [List.cons_append, execAll_cons_of_next (exec_protectAcquire_of_powered hp), execAll_append_of_next hreads]
  exact execAll_cons_of_next (protectReleaseRestoresTheToken _ _ hp) []

end Sys2Proof.Machine

/-! ### The palette mirror and the palette lookup (20_memory.md R66, R68, R69, R71, R72) -/

namespace Sys2Proof.Machine

/-- The `e`-th address of the palette's first copy, `0x3F00 + e`. -/
def paletteEntry (e : Nat) : Addr := BitVec.ofNat 16 (0x3F00 + e)

theorem paletteEntry_toNat {e : Nat} (he : e < 32) : (paletteEntry e).toNat = 0x3F00 + e := by
  simp only [paletteEntry, BitVec.toNat_ofNat]
  omega

/-- The mask of the palette mirror keeps the page and the low five bits (R66). -/
theorem and_0xFF1F_toNat (a : Addr) : (a &&& 0xFF1F).toNat = a.toNat / 256 * 256 + a.toNat % 32 := by
  have ha := a.isLt
  have hpage : (a.toNat &&& 0xFF1F) / 2 ^ 8 = a.toNat / 2 ^ 8 := by
    rw [Nat.and_div_two_pow]
    exact (Nat.and_two_pow_sub_one_eq_mod _ 8).trans (Nat.mod_eq_of_lt (by omega))
  have hlow : (a.toNat &&& 0xFF1F) % 2 ^ 8 = a.toNat % 2 ^ 8 % 2 ^ 5 := by
    rw [Nat.and_mod_two_pow]
    exact Nat.and_two_pow_sub_one_eq_mod _ 5
  rw [BitVec.toNat_and]
  change a.toNat &&& 0xFF1F = _
  omega

/-- In the palette region only the low five bits count (R66). -/
theorem and_0xFF1F_of_palette {a : Addr} (hlo : 0x3F00 ≤ a.toNat) (hhi : a.toNat < 0x4000) :
    a &&& 0xFF1F = paletteEntry (a.toNat % 32) := by
  apply BitVec.eq_of_toNat_eq
  rw [and_0xFF1F_toNat, paletteEntry_toNat (Nat.mod_lt _ (by decide))]
  omega

/-- The palette mirror inside its region, by the address with its ignored bits 0 (R66). -/
theorem foldPalette_in {a : Addr} (m : PaletteMirror) (hlo : 0x3F00 ≤ a.toNat) (hhi : a.toNat < 0x4000) :
    foldPalette m a =
      if spriteMirror m (paletteEntry (a.toNat % 32)) then paletteEntry (a.toNat % 32) &&& 0xFF0F
      else paletteEntry (a.toNat % 32) := by
  have hregion : (a >>> 8) &&& 0x3F = 0x3F := by
    apply BitVec.eq_of_toNat_eq
    rw [BitVec.toNat_and, BitVec.toNat_ushiftRight, Nat.shiftRight_eq_div_pow]
    refine (Nat.and_two_pow_sub_one_eq_mod (a.toNat / 2 ^ 8) 6).trans ?_
    change _ = 63
    omega
  rw [foldPalette, if_pos hregion, and_0xFF1F_of_palette hlo hhi]

/-- `Translate` in the palette region, by the low five bits: the name-table mirror, which runs first, does not reach it (R64). -/
theorem translate_palette {a : Addr} (m : PaletteMirror) (hlo : 0x3F00 ≤ a.toNat) (hhi : a.toNat < 0x4000) :
    translate m a = translate m (paletteEntry (a.toNat % 32)) := by
  have he : a.toNat % 32 < 32 := Nat.mod_lt _ (by decide)
  have hentry := paletteEntry_toNat he
  have hmod : (paletteEntry (a.toNat % 32)).toNat % 32 = a.toNat % 32 := by omega
  rw [translate, translate, foldNameTable_off a (Or.inr hlo), foldNameTable_off _ (Or.inr (by omega)),
    foldPalette_in m hlo hhi, foldPalette_in m (by omega) (by omega), hmod]

/-- The 32 palette entries under each reading of the mirror: an entry translates to an entry, which is its own location. -/
theorem translate_paletteEntry (m : PaletteMirror) : ∀ e < 32, ∃ f < 32,
    translate m (paletteEntry e) = paletteEntry f ∧ translate m (paletteEntry f) = paletteEntry f := by
  cases m <;> decide

/-- The 32 palette entries under `FOUR_ENTRIES` (R66, D7). -/
theorem translate_fourEntries_paletteEntry : ∀ e < 32, (translate .fourEntries (paletteEntry e)).toNat =
    if e = 0x10 ∨ e = 0x14 ∨ e = 0x18 ∨ e = 0x1C then 0x3F00 + (e - 0x10) else 0x3F00 + e := by
  decide

/-- Settles O31: the region reduces to the 32 entries, where the mirror is evaluated. -/
theorem fourEntryPaletteMirror : Obligations.FourEntryPaletteMirror := by
  refine fun a => ⟨fun hlo hhi => ?_, translate_low _ a⟩
  rw [translate_palette _ hlo hhi]
  exact translate_fourEntries_paletteEntry _ (Nat.mod_lt _ (by decide))

/-- Under `FOUR_ENTRIES` no entry that is its own location is one of the four that lose bit 4 (R68). -/
theorem paletteEntry_not_mem {e : Nat} (he : e < 32) (hfix : translate .fourEntries (paletteEntry e) = paletteEntry e) :
    (paletteEntry e).toNat ∉ [0x3F10, 0x3F14, 0x3F18, 0x3F1C] := by
  have hvalue := translate_fourEntries_paletteEntry e he
  rw [hfix, paletteEntry_toNat he] at hvalue
  rw [paletteEntry_toNat he]
  simp only [List.mem_cons, List.not_mem_nil, or_false]
  split at hvalue <;> omega

theorem not_mem_of_lt_palette {n : Nat} (h : n < 0x3F00) : n ∉ [0x3F10, 0x3F14, 0x3F18, 0x3F1C] := by
  simp only [List.mem_cons, List.not_mem_nil, or_false]
  omega

/-- Settles O30: below the mirrors `Translate` is the identity, in the name-table mirror it leaves an address below them, and in the
palette region an entry of the first copy. -/
theorem translateStaysInRange : Obligations.TranslateStaysInRange := by
  intro m a ha
  rcases Nat.lt_or_ge a.toNat 0x3000 with hlow | hlo
  · rw [translate_low m a hlow, translate_low m a hlow]
    exact ⟨ha, rfl, by omega, by omega, fun _ => not_mem_of_lt_palette (by omega)⟩
  · rcases Nat.lt_or_ge a.toNat 0x3F00 with hname | hpalette
    · have hsub := sub_0x1000_toNat a (by omega)
      rw [translate_nameTableMirror m a hlo hname, translate_low m _ (by omega)]
      exact ⟨by omega, rfl, by omega, by omega, fun _ => not_mem_of_lt_palette (by omega)⟩
    · obtain ⟨f, hf, hfold, hfix⟩ := translate_paletteEntry m (a.toNat % 32) (Nat.mod_lt _ (by decide))
      have hentry := paletteEntry_toNat hf
      rw [translate_palette m hpalette ha, hfold, hfix]
      refine ⟨by omega, rfl, by omega, by omega, ?_⟩
      rintro rfl
      exact paletteEntry_not_mem hf hfix

/-! #### The palette lookup -/

/-- The backdrop is its own location under every reading of the mirror. -/
theorem translate_backdrop (m : PaletteMirror) : translate m 0x3F00 = 0x3F00 := by
  cases m <;> decide

/-- The entry's address as arithmetic (R71). -/
theorem paletteAddress_eq (sprite : BitVec 1) (pal idx : BitVec 2) :
    (0x3F00 + 0x10 * sprite.setWidth 16 + 4 * pal.setWidth 16 + idx.setWidth 16 : Addr)
      = BitVec.ofNat 16 (0x3F00 + 16 * sprite.toNat + 4 * pal.toNat + idx.toNat) := by
  bv_omega

/-- Settles O32: the backdrop is a fixed point of the mirror, and the entry's address is the sum R71 writes. -/
theorem paletteColorLookup : Obligations.PaletteColorLookup := by
  intro P s sprite pal idx
  refine ⟨fun hP hidx => ?_, fun hP hidx => ?_, fun hP => ?_⟩
  · have hzero : idx = 0 := BitVec.eq_of_toNat_eq hidx
    simp only [paletteColor, hP, hzero, if_true, State.translatedRead, translate_backdrop]
    rfl
  · have hne : idx ≠ 0 := fun e => hidx (congrArg BitVec.toNat e)
    simp only [paletteColor, hP, hne, if_false, State.translatedRead, paletteAddress_eq]
  · simp only [paletteColor, hP]

end Sys2Proof.Machine

/-! ### The tick (43_timing.md R252-R263) -/

namespace Sys2Proof.Machine

/-! #### The two events -/

/-- `FlagTiming` (R252) in words. -/
theorem flagTiming_iff (P : Params) (s : State) :
    flagTiming P s = true ↔ P.flagTimingInWarmup = true ∨ s.time.phase = .render := by
  simp [flagTiming]

/-- A tick's event stands at its position where `FlagTiming` holds (R252). -/
theorem event_iff (P : Params) (s : State) (line dot : Nat) :
    (s.at line dot && flagTiming P s) = true ↔
      s.time.scanline = line ∧ s.time.dot = dot ∧ (P.flagTimingInWarmup = true ∨ s.time.phase = .render) := by
  rw [Bool.and_eq_true, flagTiming_iff, State.at, Bool.and_eq_true, beq_iff_eq, beq_iff_eq, and_assoc]

/-- The events of one tick read the position alone, which they leave alone. -/
theorem event_vblankEvent (P : Params) (s : State) (line dot : Nat) :
    ((vblankEvent P s).at line dot && flagTiming P (vblankEvent P s)) = (s.at line dot && flagTiming P s) := by
  simp [State.at, flagTiming]

/-- The vblank flag after a tick: cleared at (261, 1), set at (241, 1), else kept (R254, R256). -/
theorem tick_vblank (P : Params) (s : State) : (tick P s).regs.vblank =
    if s.at 261 1 && flagTiming P s then false else s.regs.vblank || (s.at 241 1 && flagTiming P s) := by
  change (renderEvent (preRenderEvent P (vblankEvent P s))).regs.vblank = _
  rw [renderEvent_regs_vblank, preRenderEvent_flags, event_vblankEvent]
  split
  · rfl
  · exact vblankEvent_vblank P s

/-- The interrupt log after a tick (R255, R301). -/
theorem tick_nmiLog (P : Params) (s : State) : (tick P s).nmiLog =
    if s.at 241 1 && flagTiming P s && s.regs.nmiEnable then s.nmiLog ++ [s.time.master] else s.nmiLog := by
  change (renderEvent (preRenderEvent P (vblankEvent P s))).nmiLog = _
  rw [renderEvent_nmiLog, preRenderEvent_nmiLog, vblankEvent_nmiLog]

/-- Rendering never clears a sprite flag (R262, D29). -/
theorem renderEvent_sprite_mono (s : State) :
    (s.regs.sprite0Hit = true → (renderEvent s).regs.sprite0Hit = true) ∧
    (s.regs.spriteOverflow = true → (renderEvent s).regs.spriteOverflow = true) := by
  rcases renderEvent_cases s with h | ⟨-, -, hit, overflow, h⟩ <;> rw [h]
  · exact ⟨id, id⟩
  · constructor <;> intro hflag <;> simp [setSpriteFlags, hflag]

/-- Settles O48: at (241, 1) no pre-render clear follows the set. -/
theorem vblankSetAtLine241Dot1 : Obligations.VblankSetAtLine241Dot1 := by
  intro s hline hdot
  have hset : ∀ P : Params, (P.flagTimingInWarmup = true ∨ s.time.phase = .render) → (tick P s).regs.vblank = true := by
    intro P hP
    have hvblank := (event_iff P s 241 1).mpr ⟨hline, hdot, hP⟩
    have hpre : s.at 261 1 = false := by simp [State.at, hline]
    rw [tick_vblank, hvblank, hpre]
    simp
  exact ⟨hset _ (.inl rfl), hset⟩

/-- Settles O49: the log and the vblank flag after a tick depend on the event of (241, 1) alone, apart from the pre-render clear. -/
theorem onlyTheVblankTickRequestsAnNmi : Obligations.OnlyTheVblankTickRequestsAnNmi := by
  intro P s
  refine ⟨fun h => ?_, fun h => ?_⟩
  · rw [← event_iff] at h
    rw [tick_nmiLog, h, Bool.true_and]
  · rw [← event_iff, Bool.not_eq_true] at h
    rw [tick_nmiLog, tick_vblank, h, Bool.or_false]
    refine ⟨rfl, fun hset => ?_⟩
    split at hset
    · cases hset
    · exact hset

/-- Settles O50: on line 261 nothing renders after the clear, and elsewhere the only writers of the flags set them. -/
theorem onlyThePreRenderTickClearsTheFlags : Obligations.OnlyThePreRenderTickClearsTheFlags := by
  intro P s
  refine ⟨fun h => ?_, fun h => ?_⟩
  · have hoff : renderEvent (preRenderEvent P (vblankEvent P s)) = preRenderEvent P (vblankEvent P s) :=
      renderEvent_off _ (.inr (by simp [h.1]))
    rw [← event_iff] at h
    change (renderEvent _).regs.vblank = false ∧ (renderEvent _).regs.sprite0Hit = false ∧
      (renderEvent _).regs.spriteOverflow = false
    rw [hoff, preRenderEvent_flags, event_vblankEvent, if_pos h]
    exact ⟨rfl, rfl, rfl⟩
  · rw [← event_iff] at h
    have hkeep : (preRenderEvent P (vblankEvent P s)).regs = (vblankEvent P s).regs := by
      rw [preRenderEvent_flags, event_vblankEvent, if_neg h]
    obtain ⟨hhit, hoverflow⟩ := renderEvent_sprite_mono (preRenderEvent P (vblankEvent P s))
    rw [hkeep, vblankEvent_regs_sprite0Hit] at hhit
    rw [hkeep, vblankEvent_regs_spriteOverflow] at hoverflow
    refine ⟨fun hvblank => ?_, hhit, hoverflow⟩
    rw [tick_vblank, if_neg h, hvblank, Bool.true_or]

/-! #### Rendering -/

/-- Pixels of different rows are different (R63). -/
theorem pixelIndex_ne {x x' y y' : Nat} (hx : x < 256) (hx' : x' < 256) (hy : y ≠ y') : pixelIndex x y ≠ pixelIndex x' y' := by
  unfold pixelIndex
  omega

/-- The rendering part writes only on the row of a visible line (R263). -/
theorem renderEvent_fbPixel (s : State) {x y : Nat} (hx : x < 256) (hy : y ≠ s.time.scanline ∨ 240 ≤ s.time.scanline) :
    (renderEvent s).fbPixel x y = s.fbPixel x y := by
  rcases renderEvent_cases s with h | ⟨hline, -, hit, overflow, h⟩
  · rw [h]
  · have hrow : y ≠ s.time.scanline := hy.resolve_right (by omega)
    have hfresh : ∀ w ∈ pixelWrites s.draws s.renderView, w.1 ≠ pixelIndex x y := by
      intro w hw
      obtain ⟨x', hx', hw'⟩ := mem_pixelWrites hw
      rw [hw']
      exact pixelIndex_ne hx' hx (Ne.symm hrow)
    rw [h, State.fbPixel, Cells.find_writeAll_of_not_mem _ _ _ hfresh, State.fbPixel]

/-- Settles O53: the events before rendering touch no pixel. -/
theorem tickWritesOnlyItsOwnRow : Obligations.TickWritesOnlyItsOwnRow := by
  intro P s x y hx hy
  have hbefore : (preRenderEvent P (vblankEvent P s)).fbPixel x y = s.fbPixel x y :=
    State.fbPixel_congr (by simp) (by simp) x y
  exact (renderEvent_fbPixel _ hx (by simpa using hy)).trans hbefore

/-- What a tick with rendering off leaves: the frame buffer, the draw counter, and the sprite flags or their clear (R259, R262). -/
theorem tick_of_renderOff (P : Params) {s : State} (hoff : renderOff s.regs = true) :
    (tick P s).fb = s.fb ∧ (tick P s).draws = s.draws ∧
    ((tick P s).regs.sprite0Hit = true → s.regs.sprite0Hit = true) ∧
    ((tick P s).regs.spriteOverflow = true → s.regs.spriteOverflow = true) := by
  have hnone : renderEvent (preRenderEvent P (vblankEvent P s)) = preRenderEvent P (vblankEvent P s) :=
    renderEvent_off _ (.inl (by simpa [renderOff] using hoff))
  change (renderEvent _).fb = _ ∧ (renderEvent _).draws = _ ∧ ((renderEvent _).regs.sprite0Hit = _ → _) ∧
    ((renderEvent _).regs.spriteOverflow = _ → _)
  rw [hnone, preRenderEvent_flags]
  refine ⟨by simp, by simp, ?_⟩
  split
  · simp [clearStatusFlags]
  · simp

/-- Settles O52: rendering stays off through the loop, so every tick is one of `tick_of_renderOff`. -/
theorem renderOffDrawsNothing : Obligations.RenderOffDrawsNothing := by
  intro s t n hbg hsprites h
  obtain ⟨-, rfl⟩ := execStepTo_next h
  have hloop := ticks_induction Config.params
    (fun u => renderOff u.regs = true ∧ u.fb = s.fb ∧ u.draws = s.draws ∧
      (u.regs.sprite0Hit = true → s.regs.sprite0Hit = true) ∧
      (u.regs.spriteOverflow = true → s.regs.spriteOverflow = true))
    (fun u ⟨hoff, hfb, hdraws, hhit, hoverflow⟩ => by
      obtain ⟨tfb, tdraws, thit, toverflow⟩ := tick_of_renderOff Config.params hoff
      exact ⟨by simpa [renderOff] using hoff, tfb.trans hfb, tdraws.trans hdraws, hhit ∘ thit, hoverflow ∘ toverflow⟩)
    (n - s.time.master) s ⟨by simp [renderOff, hbg, hsprites], rfl, rfl, id, id⟩
  obtain ⟨-, hfb, hdraws, hhit, hoverflow⟩ := hloop
  exact ⟨State.fbPixel_congr hfb (by simp), hdraws, hhit, hoverflow⟩

/-! #### The phase -/

/-- The phase of `m` under legal thresholds, range by range (R258). -/
theorem phaseAt_cases {P : Params} (hP : P.Legal) (m : Nat) :
    (phaseAt P m = .powerOn ∧ m < P.tVbl1) ∨ (phaseAt P m = .vbl1 ∧ P.tVbl1 ≤ m ∧ m < P.tVbl2) ∨
    (phaseAt P m = .vbl2 ∧ P.tVbl2 ≤ m ∧ m ≤ P.warmup) ∨ (phaseAt P m = .ready ∧ P.warmup < m ∧ m < P.tRender) ∨
    (phaseAt P m = .render ∧ P.tRender ≤ m) := by
  obtain ⟨-, h12, h2w, hwr, -⟩ := hP
  unfold phaseAt
  split
  · exact .inl ⟨rfl, ‹_›⟩
  · split
    · exact .inr (.inl ⟨rfl, by omega, ‹_›⟩)
    · split
      · exact .inr (.inr (.inl ⟨rfl, by omega, ‹_›⟩))
      · split
        · exact .inr (.inr (.inr (.inl ⟨rfl, by omega, ‹_›⟩)))
        · exact .inr (.inr (.inr (.inr ⟨rfl, by omega⟩)))

/-- Each phase holds on its own range: the five ranges exclude one another. -/
theorem phaseAt_iff {P : Params} (hP : P.Legal) (m : Nat) :
    (phaseAt P m = .powerOn ↔ m < P.tVbl1) ∧ (phaseAt P m = .vbl1 ↔ P.tVbl1 ≤ m ∧ m < P.tVbl2) ∧
    (phaseAt P m = .vbl2 ↔ P.tVbl2 ≤ m ∧ m ≤ P.warmup) ∧ (phaseAt P m = .ready ↔ P.warmup < m ∧ m < P.tRender) ∧
    (phaseAt P m = .render ↔ P.tRender ≤ m) := by
  have hcases := phaseAt_cases hP m
  obtain ⟨-, h12, h2w, hwr, -⟩ := hP
  rcases hcases with ⟨h, hm⟩ | ⟨h, hm⟩ | ⟨h, hm⟩ | ⟨h, hm⟩ | ⟨h, hm⟩ <;> rw [h] <;>
    simp only [reduceCtorEq, true_iff, false_iff] <;> omega

/-- This machine's open thresholds lie within R258's bounds, whatever the free choices behind them. -/
theorem params_legal : Config.params.Legal := by
  have h1 : Config.openVbl1 % (Config.warmup + 1) < Config.warmup + 1 := Nat.mod_lt _ (Nat.succ_pos _)
  have h2 : Config.openVbl2 % (Config.warmup + 2 - Config.tVbl1) < Config.warmup + 2 - Config.tVbl1 :=
    Nat.mod_lt _ (by unfold Config.tVbl1; omega)
  change 0 < Config.tVbl1 ∧ Config.tVbl1 ≤ Config.tVbl2 ∧ Config.tVbl2 ≤ Config.warmup + 1 ∧
    Config.warmup + 1 ≤ Config.tRender ∧ 0 < 262
  unfold Config.tVbl2 Config.tRender
  unfold Config.tVbl1 at *
  omega

theorem tick_phase (P : Params) (s : State) : (tick P s).time.phase = phaseAt P (tick P s).time.master := by
  rw [tick_time, nextTiming_phase, nextTiming_master]

/-- Every operation keeps the phase the one `master` names: STEP_TO by its ticks, POWER_ON and RESET at `master = 0`, and the others
keep the counters. -/
theorem exec_keeps_phase {s t : State} {i : Instr} (hphase : s.time.phase = phaseAt Config.params s.time.master)
    (h : exec i s = .next t) : t.time.phase = phaseAt Config.params t.time.master := by
  have hreset : (Timing.reset Config.params.startLine).phase = phaseAt Config.params 0 :=
    ((phaseAt_iff params_legal 0).1.mpr params_legal.1).symm
  by_cases hstep : ∃ n, i = .stepTo n
  · obtain ⟨n, rfl⟩ := hstep
    obtain ⟨-, rfl⟩ := execStepTo_next h
    exact ticks_induction Config.params (fun u => u.time.phase = phaseAt Config.params u.time.master)
      (fun u _ => tick_phase _ u) _ s hphase
  · by_cases hpower : i = .powerOn
    · subst hpower
      rw [execPowerOn_next h]
      exact hreset
    · by_cases hr : i = .reset
      · subst hr
        obtain ⟨-, rfl⟩ := execReset_next h
        exact hreset
      · rw [exec_time_eq (not_exists.mp hstep) hpower hr h]
        exact hphase

/-- Settles O54: the ranges of consecutive `master`s, in order, leave no way back. -/
theorem phaseProgressesOneWay : Obligations.PhaseProgressesOneWay := by
  refine ⟨params_legal, fun P hP m => ?_, tick_phase, fun s t i => exec_keeps_phase⟩
  obtain ⟨hpower, hvbl1, hvbl2, hready, hrender⟩ := phaseAt_iff hP m
  obtain ⟨npower, nvbl1, nvbl2, nready, nrender⟩ := phaseAt_iff hP (m + 1)
  refine ⟨hpower, hvbl1, hvbl2, hready, hrender, ?_, ?_, ?_, ?_, ?_⟩
  · rw [npower, hpower]; omega
  · rw [nvbl1, hpower, hvbl1]; omega
  · rw [nvbl2, hpower, hvbl1, hvbl2]; omega
  · rw [nready, ne_eq, hrender]; omega
  · rw [nrender, hrender]; omega

end Sys2Proof.Machine

/-! ### Stepping (42_host_calls.md R212, R213; 43_timing.md R264-R266) -/

namespace Sys2Proof.Machine

/-! #### Where the loop ends -/

theorem ceilingExceeded_of_none {s : State} (h : s.frameCeiling = none) : ceilingExceeded s = false := by
  simp [ceilingExceeded, h]

theorem ceilingExceeded_iff {s : State} {n : Nat} (h : s.frameCeiling = some n) :
    ceilingExceeded s = true ↔ n < s.time.frame := by
  simp [ceilingExceeded, h]

theorem ticks_frameCeiling (P : Params) (k : Nat) (s : State) : (ticks P k s).frameCeiling = s.frameCeiling :=
  ticks_eq_of_tick_eq P State.frameCeiling (tick_frameCeiling P) k s

/-- Without a ceiling the loop runs every tick (R212). -/
theorem ticks_master_of_no_ceiling (P : Params) (k : Nat) {s : State} (h : s.frameCeiling = none) :
    (ticks P k s).time.master = s.time.master + k := by
  rcases ticks_master P k s with hall | ⟨hstop, -⟩
  · exact hall
  · rw [ceilingExceeded_of_none ((ticks_frameCeiling P k s).trans h)] at hstop
    cases hstop

theorem runTo_of_no_ceiling (P : Params) (n : Nat) {s : State} (h : s.frameCeiling = none) :
    (runTo P n s).time.master = max n s.time.master := by
  rw [runTo, ticks_master_of_no_ceiling P _ h]
  omega

/-- With or without a ceiling the loop never passes its target. -/
theorem runTo_master_le (P : Params) (n : Nat) (s : State) : (runTo P n s).time.master ≤ max n s.time.master := by
  rcases ticks_master P (n - s.time.master) s with h | ⟨-, h⟩ <;> rw [runTo] <;> omega

/-- What a tick keeps as long as the ceiling is not exceeded, the loop keeps. -/
theorem ticks_induction_below_ceiling (P : Params) (Q : State → Prop)
    (htick : ∀ s, Q s → ceilingExceeded s = false → Q (tick P s)) (k : Nat) (s : State) (h : Q s) : Q (ticks P k s) := by
  induction k generalizing s with
  | zero => exact h
  | succ k ih =>
    rw [ticks_succ]
    split
    · exact h
    · next hbelow => exact ih _ (htick s h (Bool.not_eq_true _ ▸ hbelow))

/-- Settles O43: no tick is left to make, or the loop stops before its first. -/
theorem stepToDoesNothingWhenItCannotAdvance : Obligations.StepToDoesNothingWhenItCannotAdvance := by
  intro s n hp hcase
  have hstays : runTo Config.params n s = s := by
    rcases hcase with hpast | ⟨c, hc, hlt⟩
    · rw [runTo, Nat.sub_eq_zero_of_le hpast, ticks_zero]
    · exact ticks_of_exceeded _ _ _ ((ceilingExceeded_iff hc).mpr hlt)
  rw [exec_stepTo_of_powered hp, hstays]
  rfl

/-- Running on from where a nearer target stopped is running to the farther one: the ticks add up, and where the ceiling stopped the
first run it stops the second. -/
theorem runTo_runTo (P : Params) {m n : Nat} (h : m ≤ n) (s : State) : runTo P n (runTo P m s) = runTo P n s := by
  unfold runTo
  have hsplit : n - s.time.master = (m - s.time.master) + (n - s.time.master - (m - s.time.master)) := by omega
  rw [hsplit, ticks_add]
  rcases ticks_master P (m - s.time.master) s with hall | ⟨hstop, -⟩
  · congr 1
    omega
  · rw [ticks_of_exceeded _ _ _ hstop, ticks_of_exceeded _ _ _ hstop]

/-- STEP_TO does not read what the last operation returned. -/
theorem runTo_answer (P : Params) (n : Nat) (s : State) (r : Returned) :
    runTo P n (s.answer r) = (runTo P n s).answer r :=
  ticks_answer P _ s r

/-- Settles O44: the value the first call returned is not read, and the two runs join into one. -/
theorem stepToComposes : Obligations.StepToComposes := by
  intro s t m n hmn h
  obtain ⟨hp, rfl⟩ := execStepTo_next h
  have hp' : ((runTo Config.params m s).answer .nothing).powerOns ≠ 0 := by simpa
  rw [exec_stepTo_of_powered hp', exec_stepTo_of_powered hp, runTo_answer, runTo_runTo _ hmn]
  rfl

/-- STEP_TO writes the three status flags, the counters, the log, the frame buffer and the draw counter, and nothing else (R260). -/
theorem runTo_frame (P : Params) (n : Nat) (s : State) : runTo P n s =
    { s with
      regs := { s.regs with
        vblank := (runTo P n s).regs.vblank, sprite0Hit := (runTo P n s).regs.sprite0Hit,
        spriteOverflow := (runTo P n s).regs.spriteOverflow }
      time := (runTo P n s).time
      nmiLog := (runTo P n s).nmiLog
      fb := (runTo P n s).fb
      draws := (runTo P n s).draws } := by
  dsimp only
  rw [← runTo_isProtected P n s, ← runTo_frameCeiling P n s, ← runTo_vram P n s, ← runTo_oam P n s, ← runTo_powerOns P n s,
    ← runTo_returned P n s, ← runTo_pending P n s, ← runTo_regs_ntBase P n s, ← runTo_regs_bgPatternBase P n s,
    ← runTo_regs_spriteSize P n s, ← runTo_regs_vinc P n s, ← runTo_regs_nmiEnable P n s, ← runTo_regs_grayscale P n s,
    ← runTo_regs_showBg P n s, ← runTo_regs_showSprites P n s, ← runTo_regs_oamAddr P n s, ← runTo_regs_scrollX P n s,
    ← runTo_regs_scrollY P n s, ← runTo_regs_vaddr P n s, ← runTo_regs_toggle P n s, ← runTo_regs_latch P n s]

/-- Settles O42: with no ceiling to stop the loop it reaches its target, and what it writes is `runTo_frame`. -/
theorem stepToReachesItsTarget : Obligations.StepToReachesItsTarget := by
  intro s n hp hc
  refine ⟨_, exec_stepTo_of_powered hp n, runTo_of_no_ceiling _ n hc, fun a => ?_, fun a => ?_, ?_⟩
  · exact State.vramRead_congr (by simp) (by simp) a
  · exact State.oamRead_congr (by simp) (by simp) a
  · exact congrArg (State.answer · .nothing) (runTo_frame Config.params n s)

/-! #### The position of a master cycle -/

/-- The position law with start line 0: `master` counts frames, lines and dots (R44, R266). -/
theorem Inv.master_eq {s : State} (hinv : Inv s) :
    s.time.master = s.time.frame * 89342 + s.time.scanline * 341 + s.time.dot := hinv.position

theorem Inv.dot_eq {s : State} (hinv : Inv s) : s.time.dot = s.time.master % 341 := by
  have hdot := hinv.dot_lt
  have hmaster := hinv.master_eq
  omega

theorem Inv.scanline_eq {s : State} (hinv : Inv s) : s.time.scanline = s.time.master / 341 % 262 := by
  have hdot := hinv.dot_lt
  have hline := hinv.scanline_lt
  have hmaster := hinv.master_eq
  omega

theorem Inv.frame_eq {s : State} (hinv : Inv s) : s.time.frame = s.time.master / 89342 := by
  have hdot := hinv.dot_lt
  have hline := hinv.scanline_lt
  have hmaster := hinv.master_eq
  omega

theorem Inv.ready_eq {s : State} (hinv : Inv s) : s.time.ready = decide (29658 < s.time.master) :=
  Bool.eq_iff_iff.mpr (hinv.ready_iff.trans decide_eq_true_iff.symm)

/-- Settles O45: the loop keeps the invariant, and the invariant gives the position. -/
theorem positionFollowsMaster : Obligations.PositionFollowsMaster := by
  intro s n hp hinv
  have hend := hinv.runTo n
  exact ⟨_, exec_stepTo_of_powered hp n, hend.dot_eq, hend.scanline_eq, hend.frame_eq, hend.ready_eq,
    runTo_master_le _ n s, runTo_of_no_ceiling _ n⟩

/-- Settles O46: below the ceiling the frame is not over, so no tick passes its end; and the loop stops only there or at its target. -/
theorem frameCeilingStopsStepping : Obligations.FrameCeilingStopsStepping := by
  intro s n m hp hinv hc hframe hm
  have hstart : s.time.master < (n + 1) * 89342 := by
    have := hinv.frame_eq
    omega
  have hloop := ticks_induction_below_ceiling Config.params
    (fun u => Inv u ∧ u.frameCeiling = some n ∧ u.time.master ≤ (n + 1) * 89342)
    (fun u ⟨huinv, huc, _⟩ hbelow => by
      have hframe : ¬ n < u.time.frame := (ceilingExceeded_iff huc).not.mp (by simp [hbelow])
      have := huinv.frame_eq
      refine ⟨huinv.tick, by simpa using huc, ?_⟩
      rw [tick_time, nextTiming_master]
      omega)
    (m - s.time.master) s ⟨hinv, hc, hstart.le⟩
  obtain ⟨huinv, huc, hle⟩ := hloop
  have hframe := huinv.frame_eq
  have hmaster : (runTo Config.params m s).time.master = (n + 1) * 89342 := by
    rcases ticks_master Config.params (m - s.time.master) s with hall | ⟨hstop, -⟩
    · rw [runTo]
      omega
    · rw [ceilingExceeded_iff huc] at hstop
      rw [runTo]
      omega
  refine ⟨_, exec_stepTo_of_powered hp m, hmaster, ?_⟩
  rw [runTo] at hmaster
  exact hframe.trans (by omega)

/-! #### One request per frame -/

/-- With start line 0 the vblank tick of a frame is its cycle 82182 (R254, D2). -/
theorem at_vblank_iff {s : State} (hinv : Inv s) : s.at 241 1 = true ↔ s.time.master % 89342 = 82182 := by
  have hdot := hinv.dot_lt
  have hline := hinv.scanline_lt
  have hmaster := hinv.master_eq
  rw [State.at, Bool.and_eq_true, beq_iff_eq, beq_iff_eq]
  omega

theorem flagTiming_params (s : State) : flagTiming Config.params s = true := rfl

theorem ticks_nmiEnable (P : Params) (k : Nat) (s : State) : (ticks P k s).regs.nmiEnable = s.regs.nmiEnable :=
  ticks_eq_of_tick_eq P (fun s => s.regs.nmiEnable) (tick_regs_nmiEnable P) k s

/-- Ticks that do not meet the vblank tick leave the log alone (R255). -/
theorem ticks_nmiLog_of_no_vblank (k : Nat) {s : State} (hinv : Inv s)
    (hno : ∀ j < k, (s.time.master + j) % 89342 ≠ 82182) : (ticks Config.params k s).nmiLog = s.nmiLog := by
  induction k generalizing s with
  | zero => rfl
  | succ k ih =>
    rw [ticks_succ]
    split
    · rfl
    · have hat : s.at 241 1 = false := by
        rw [← Bool.not_eq_true, at_vblank_iff hinv]
        exact hno 0 (Nat.succ_pos k)
      rw [ih hinv.tick, tick_nmiLog, hat]
      · rfl
      · intro j hj
        rw [tick_time, nextTiming_master, Nat.add_assoc, Nat.add_comm 1]
        exact hno (j + 1) (by omega)

/-- Settles O51: the ticks before the vblank tick, that tick, and the ticks after it up to one frame from the start. -/
theorem oneNmiPerFrame : Obligations.OneNmiPerFrame := by
  intro s hp hinv hc hnmi
  obtain ⟨a, b, hab, hphase⟩ : ∃ a b, a + (1 + b) = 89342 ∧ (s.time.master + a) % 89342 = 82182 :=
    ⟨(82182 + 89342 - s.time.master % 89342) % 89342, 89341 - (82182 + 89342 - s.time.master % 89342) % 89342,
      by omega, by omega⟩
  obtain ⟨u, hu⟩ : ∃ u, u = ticks Config.params a s := ⟨_, rfl⟩
  have huinv : Inv u := hu ▸ hinv.ticks a
  have humaster : u.time.master = s.time.master + a := hu ▸ ticks_master_of_no_ceiling _ a hc
  have hunmi : u.regs.nmiEnable = true := by rw [hu, ticks_nmiEnable, hnmi]
  have huc : u.frameCeiling = none := by rw [hu, ticks_frameCeiling, hc]
  have hulog : u.nmiLog = s.nmiLog := hu ▸ ticks_nmiLog_of_no_vblank a hinv (by omega)
  have hlog : (tick Config.params u).nmiLog = s.nmiLog ++ [u.time.master] := by
    have hat : u.at 241 1 = true := (at_vblank_iff huinv).mpr (by omega)
    rw [tick_nmiLog, hat, flagTiming_params, hunmi, hulog]
    rfl
  have hone : ticks Config.params 1 u = tick Config.params u := by
    rw [ticks_succ, ceilingExceeded_of_none huc]
    rfl
  have hend : (ticks Config.params b (tick Config.params u)).nmiLog = s.nmiLog ++ [u.time.master] := by
    rw [ticks_nmiLog_of_no_vblank b huinv.tick, hlog]
    intro j hj
    rw [tick_time, nextTiming_master]
    omega
  refine ⟨_, u.time.master, exec_stepTo_of_powered hp _, ?_, by omega, by omega, by omega⟩
  rw [State.answer_nmiLog, runTo, Nat.add_sub_cancel_left, ← hab, ticks_add, ticks_add, ← hu, hone, hend]

end Sys2Proof.Machine

/-! ### The whole-machine rules (10_state.md R20, R44; 43_timing.md R253) -/

namespace Sys2Proof.Machine

/-! #### The "written by" column -/

/-- The "written by" column of R20 for an operation `i` from `s` to `t`, POWER_ON apart: what `i` does not write is the same in both.
RESET is no writer of the log and of the memories, but writes every register. -/
structure WrittenByColumn (i : Instr) (s t : State) : Prop where
  powerOns : t.powerOns = s.powerOns
  nmiLog : (∀ n, i ≠ .stepTo n) → t.nmiLog = s.nmiLog
  vram : (∀ d, i ≠ .wrData d) → t.vram = s.vram
  oam : (∀ d, i ≠ .wrOamData d) → (∀ p, i ≠ .wrOamDma p) → t.oam = s.oam
  fb : (∀ n, i ≠ .stepTo n) → t.fb = s.fb
  ctrl : i ≠ .reset → (∀ d, i ≠ .wrCtrl d) →
    t.regs.ntBase = s.regs.ntBase ∧ t.regs.bgPatternBase = s.regs.bgPatternBase ∧
    t.regs.spriteSize = s.regs.spriteSize ∧ t.regs.vinc = s.regs.vinc ∧ t.regs.nmiEnable = s.regs.nmiEnable
  mask : i ≠ .reset → (∀ d, i ≠ .wrMask d) →
    t.regs.grayscale = s.regs.grayscale ∧ t.regs.showBg = s.regs.showBg ∧ t.regs.showSprites = s.regs.showSprites
  vblank : i ≠ .reset → i ≠ .rdStatus → (∀ n, i ≠ .stepTo n) → t.regs.vblank = s.regs.vblank
  sprites : i ≠ .reset → (∀ n, i ≠ .stepTo n) →
    t.regs.sprite0Hit = s.regs.sprite0Hit ∧ t.regs.spriteOverflow = s.regs.spriteOverflow
  oamAddr : i ≠ .reset → (∀ d, i ≠ .wrOamAddr d ∧ i ≠ .wrOamData d) → t.regs.oamAddr = s.regs.oamAddr
  scroll : i ≠ .reset → (∀ d, i ≠ .wrScroll d) → t.regs.scrollX = s.regs.scrollX ∧ t.regs.scrollY = s.regs.scrollY
  vaddr : i ≠ .reset → i ≠ .rdData → (∀ d, i ≠ .wrAddr d ∧ i ≠ .wrData d) → t.regs.vaddr = s.regs.vaddr
  toggle : i ≠ .reset → i ≠ .rdStatus → (∀ d, i ≠ .wrScroll d ∧ i ≠ .wrAddr d) → t.regs.toggle = s.regs.toggle
  latch : i ≠ .reset → i.isPortWrite = false → i ≠ .rdStatus → i ≠ .rdOamData → i ≠ .rdData →
    t.regs.latch = s.regs.latch
  isProtected : i ≠ .protectAcquire → (∀ b, i ≠ .protectRelease b) → t.isProtected = s.isProtected
  frameCeiling : (∀ n, i ≠ .stopAfterFrame n) → t.frameCeiling = s.frameCeiling

/-- Every operation but POWER_ON keeps to the column: operation by operation, what its meaning updates is its own row. -/
theorem exec_writtenByColumn {s t : State} {i : Instr} (hpower : i ≠ .powerOn) (h : exec i s = .next t) :
    WrittenByColumn i s t := by
  cases i with
  | powerOn => exact absurd rfl hpower
  | wrCtrl d => obtain ⟨-, rfl⟩ := execWrCtrl_next h; split <;> constructor <;> simp [Instr.isPortWrite]
  | wrMask d => obtain ⟨-, rfl⟩ := execWrMask_next h; split <;> constructor <;> simp [Instr.isPortWrite]
  | wrScroll d => obtain ⟨-, rfl⟩ := execWrScroll_next h; split <;> constructor <;> simp [Instr.isPortWrite]
  | wrStatus d => obtain ⟨-, rfl⟩ := execWrStatus_next h; constructor <;> simp [Instr.isPortWrite]
  | wrOamAddr d => obtain ⟨-, rfl⟩ := execWrOamAddr_next h; constructor <;> simp [Instr.isPortWrite]
  | wrOamData d => obtain ⟨-, rfl⟩ := execWrOamData_next h; constructor <;> simp [Instr.isPortWrite]
  | wrAddr d => obtain ⟨-, rfl⟩ := execWrAddr_next h; constructor <;> simp [Instr.isPortWrite]
  | wrData d => obtain ⟨-, rfl⟩ := execWrData_next h; constructor <;> simp [Instr.isPortWrite]
  | wrOamDma page => obtain ⟨-, -, rfl⟩ := execWrOamDma_next h; constructor <;> simp [Instr.isPortWrite]
  | rdCtrl | rdMask | rdOamAddr | rdScroll | rdAddr => obtain ⟨-, rfl⟩ := latchRead_eq_next h; constructor <;> simp
  | rdStatus => obtain ⟨-, rfl⟩ := execRdStatus_next h; split <;> constructor <;> simp [afterStatusRead]
  | rdOamData => obtain ⟨-, rfl⟩ := execRdOamData_next h; constructor <;> simp
  | rdData => obtain ⟨-, rfl⟩ := execRdData_next h; split <;> constructor <;> simp
  | reset => obtain ⟨-, rfl⟩ := execReset_next h; constructor <;> simp
  | stepTo n => obtain ⟨-, rfl⟩ := execStepTo_next h; constructor <;> simp
  | stopAfterFrame n => obtain ⟨-, rfl⟩ := execStopAfterFrame_next h; constructor <;> simp
  | protectAcquire => obtain ⟨-, rfl⟩ := execProtectAcquire_next h; constructor <;> simp
  | protectRelease token => obtain ⟨-, rfl⟩ := execProtectRelease_next h; constructor <;> simp
  | fbRead x y => obtain ⟨-, -, -, rfl⟩ := execFbRead_next h; constructor <;> simp

/-- Settles O56: a read sees its memory's cells and the power-on draws behind them, and both stay. -/
theorem memoriesChangeOnlyUnderTheirWriters : Obligations.MemoriesChangeOnlyUnderTheirWriters := by
  intro s t i h hpower
  have hcol := exec_writtenByColumn hpower h
  exact ⟨fun hi => State.vramRead_congr (hcol.vram hi) hcol.powerOns,
    fun hi hj => State.oamRead_congr (hcol.oam hi hj) hcol.powerOns,
    fun hi => State.fbPixel_congr (hcol.fb hi) hcol.powerOns⟩

/-- Settles O57: the register rows of the column. -/
theorem registersChangeOnlyUnderTheirWriters : Obligations.RegistersChangeOnlyUnderTheirWriters := by
  intro s t i h hpower hreset
  have hcol := exec_writtenByColumn hpower h
  exact ⟨hcol.ctrl hreset, hcol.mask hreset, hcol.vblank hreset, hcol.sprites hreset, hcol.oamAddr hreset,
    hcol.scroll hreset, hcol.vaddr hreset, hcol.toggle hreset, hcol.latch hreset, hcol.isProtected, hcol.frameCeiling⟩

/-! #### Time -/

theorem nextTiming_frame_le (P : Params) (t : Timing) : t.frame ≤ (nextTiming P t).frame := by
  simp only [nextTiming]
  split <;> omega

/-- Stepping moves `master` and `frame` forward only (R36, R44). -/
theorem runTo_master_frame_le (P : Params) (n : Nat) (s : State) :
    s.time.master ≤ (runTo P n s).time.master ∧ s.time.frame ≤ (runTo P n s).time.frame := by
  refine ticks_induction P (fun u => s.time.master ≤ u.time.master ∧ s.time.frame ≤ u.time.frame) ?_ _ s
    ⟨Nat.le_refl _, Nat.le_refl _⟩
  rintro u ⟨hmaster, hframe⟩
  rw [tick_time]
  exact ⟨hmaster.trans (Nat.le_succ _), hframe.trans (nextTiming_frame_le P u.time)⟩

/-- Settles O55: STEP_TO ticks forward, and every other operation keeps the counters. -/
theorem onlySteppingMovesTimeAndForward : Obligations.OnlySteppingMovesTimeAndForward := by
  intro s t i h
  refine ⟨fun hstep hpower hreset => exec_time_eq hstep hpower hreset h, fun hstep hpower => (exec_writtenByColumn hpower h).nmiLog hstep,
    fun hinv hpower hreset => ?_⟩
  have hready : s.time.ready = true → t.time.ready = true := fun hr => exec_keeps_ready hinv hr hpower hreset h
  by_cases hstep : ∃ n, i = .stepTo n
  · obtain ⟨n, rfl⟩ := hstep
    obtain ⟨-, rfl⟩ := execStepTo_next h
    obtain ⟨hmaster, hframe⟩ := runTo_master_frame_le Config.params n s
    exact ⟨hmaster, hframe, hready⟩
  · have htime := exec_time_eq (not_exists.mp hstep) hpower hreset h
    exact ⟨htime ▸ Nat.le_refl _, htime ▸ Nat.le_refl _, hready⟩

end Sys2Proof.Machine
